-- ==== Sys2Proof/Word.lean ====
section
/-! DEFINITION. The words of the block: the input byte, the 16-bit operand, the 32-bit byte counter, and text. -/

namespace Sys2Proof

/-- The raw input unit, 8 bits unsigned (R11 `BYTE_WIDTH`). -/
abbrev Byte := BitVec 8

/-- An assembled operand, 16 bits unsigned (R11 `OPERAND_WIDTH`). -/
abbrev Operand := BitVec 16

/-- The byte counter and the values computed from it, 32 bits (R11 `COUNT_WIDTH`, decision D2). -/
abbrev Count := BitVec 32

/-- A text output, as its characters in order; every character the block emits is ASCII (decision D12). -/
abbrev Text := List Char

end Sys2Proof
end

