-- ==== Sys2Proof/Machine/Bytes.lean ====
section
/-! DEFINITION. Byte order and extension helpers (R43, R131 and 00_scope.md section 5). -/

namespace Sys2Proof

/-- Bits 7:0 of an operand: the first operand byte in the stream (R43). -/
def loByte (v : Operand) : Byte := v.setWidth 8

/-- Bits 15:8 of an operand: the second operand byte in the stream (R43). -/
def hiByte (v : Operand) : Byte := (v >>> 8).setWidth 8

/-- The operand of two operand bytes, `zext_16(b2) << 8 | zext_16(b1)` (R43). -/
def joinBytes (b2 b1 : Byte) : Operand := (b2.setWidth 16 <<< 8) ||| b1.setWidth 16

/-- `zext_16` of a byte (00_scope.md section 5). -/
def zext16 (b : Byte) : Operand := b.setWidth 16

/-- `zext_32` of an operand (00_scope.md section 5). -/
def zext32 (v : Operand) : Count := v.setWidth 32

/-- `sext_32` of a byte (00_scope.md section 5). -/
def sext32 (b : Byte) : Count := b.signExtend 32

end Sys2Proof
end

