-- ==== Sys2Proof/Machine/Names.lean ====
section
/-! DEFINITION. The names the block deals in: the 16 addressing modes (R61), the 98 mnemonics (R64), the
descriptor (R21), the four statuses (R106), the error outcomes (R301) and the kinds of transaction (R305).
Types only: every function on them stands in a file of its own. -/

namespace Sys2Proof

/-- An addressing mode, under the key 30_encoding.md R61 gives it, in the order of R61's ids. -/
inductive Mode where
  | abs -- ABS, absolute
  | absXInd -- ABS_X_IND, absolute indexed indirect (X)
  | absX -- ABS_X, absolute indexed with X
  | absY -- ABS_Y, absolute indexed with Y
  | absInd -- ABS_IND, absolute indirect
  | acc -- ACC, accumulator
  | imm -- IMM, immediate
  | imp -- IMP, implied
  | rel -- REL, program counter relative
  | stk -- STK, stack
  | zp -- ZP, zero page
  | zpXInd -- ZP_X_IND, zero page indexed indirect (X)
  | zpX -- ZP_X, zero page indexed with X
  | zpY -- ZP_Y, zero page indexed with Y
  | zpInd -- ZP_IND, zero page indirect
  | zpIndY -- ZP_IND_Y, zero page indirect indexed with Y
deriving DecidableEq, Repr

/-- A mnemonic of 30_encoding.md R64, in the order of R64's ids (alphabetical by display text). -/
inductive Mnemonic where
  | adc | and | asl | bbr0 | bbr1 | bbr2 | bbr3 | bbr4
  | bbr5 | bbr6 | bbr7 | bbs0 | bbs1 | bbs2 | bbs3 | bbs4
  | bbs5 | bbs6 | bbs7 | bcc | bcs | beq | bit | bmi
  | bne | bpl | bra | brk | bvc | bvs | clc | cld
  | cli | clv | cmp | cpx | cpy | dec | dex | dey
  | eor | inc | inx | iny | jmp | jsr | lda | ldx
  | ldy | lsr | nop | ora | pha | php | phx | phy
  | pla | plp | plx | ply | rmb0 | rmb1 | rmb2 | rmb3
  | rmb4 | rmb5 | rmb6 | rmb7 | rol | ror | rti | rts
  | sbc | sec | sed | sei | smb0 | smb1 | smb2 | smb3
  | smb4 | smb5 | smb6 | smb7 | sta | stp | stx | sty
  | stz | tax | tay | trb | tsb | tsx | txa | txs
  | tya | wai
deriving DecidableEq, Repr

/-- An opcode ROM cell (R32): `none` is the spec's `NoMatch`. -/
abbrev RomCell := Option (Mnemonic × Mode)

/-- The descriptor of the current instruction, with the five fields of R21 and R108. -/
structure Descriptor where
  byte     : Byte
  mnemonic : Mnemonic
  mode     : Mode
  text     : Text
  count    : Fin 3
deriving DecidableEq, Repr

/-- The decode status (R106), in the order of R36's codes. -/
inductive Status where
  | noInstruction
  | awaitingFirstOperandByte
  | awaitingSecondOperandByte
  | instructionComplete
deriving DecidableEq, Repr

/-- The three outcome classes of R301. They are names for results, not stored anywhere (D16). -/
inductive ErrorOutcome where
  | unrecognizedOpcode -- a byte that starts an instruction has no ROM entry (R302)
  | inconsistentRender -- a render with no descriptor, or with the wrong operand presence (R303)
  | absentValue        -- an accessor asked for a value that does not exist (R304)
deriving DecidableEq, Repr

/-- What one decode transaction does (R305): exactly one of the three. -/
inductive TransactionKind where
  | newInstruction     -- the byte starts an instruction and resolves
  | unrecognizedOpcode -- the byte starts an instruction and does not resolve
  | operandByte        -- the byte is folded into the operand
deriving DecidableEq, Repr

end Sys2Proof
end

