-- ==== Sys2Proof/Config.lean ====
section
/-! DEFINITION. The implementation parameters of R11, at the values the spec gives them, and the two free values of
the model: what the fold would use in states that R26 puts outside the spec. -/

namespace Sys2Proof.Config

/-- `MAX_OPERAND_BYTES` (R11). -/
def maxOperandBytes : Nat := 2

/-- `NUM_MODES` (R11). -/
def numModes : Nat := 16

/-- `NUM_MNEMONICS` (R11). -/
def numMnemonics : Nat := 98

/-- `NUM_OPCODES_DEFINED` (R11). -/
def numOpcodesDefined : Nat := 212

/-- `BBX_MODE` (R11, R73, decision D6): the mode of BBR0 to BBR7 and BBS0 to BBS7. -/
def bbxMode : Mode := .rel

/-- FREE VALUE (log entry 6): `count(ROM[OPC].mode)` when `ROM[OPC]` is `NoMatch` although a descriptor is said to be
present. R26 puts such a state outside the spec, and no run from reset reaches one. -/
opaque countOutsideSpec : Byte → Fin 3

/-- FREE VALUE (log entry 6): the byte position `c - REM` of a fold (R102) when `REM` exceeds `c`. R26 puts such a state
outside the spec, and no run from reset reaches one. -/
opaque positionOutsideSpec : Fin 3 → Fin 3 → Nat

end Sys2Proof.Config
end

