-- ==== Sys2Proof/Machine/Rom.lean ====
section
/-! DEFINITION. The constant tables of the block (R32, R33): the mode table (R61, R62), the mnemonic table (R64) and the
256-entry opcode ROM (R65), laid out as the matrix of R65, one row a high hex digit. -/

namespace Sys2Proof

/-- The 4-bit id of a mode (R61, decision D10). -/
def Mode.id : Mode → BitVec 4
  | .abs => 0
  | .absXInd => 1
  | .absX => 2
  | .absY => 3
  | .absInd => 4
  | .acc => 5
  | .imm => 6
  | .imp => 7
  | .rel => 8
  | .stk => 9
  | .zp => 10
  | .zpXInd => 11
  | .zpX => 12
  | .zpY => 13
  | .zpInd => 14
  | .zpIndY => 15

/-- `count(mode)`: the fixed operand byte count of a mode (R62). -/
def Mode.count : Mode → Fin 3
  | .abs => 2
  | .absXInd => 2
  | .absX => 2
  | .absY => 2
  | .absInd => 2
  | .acc => 0
  | .imm => 1
  | .imp => 0
  | .rel => 1
  | .stk => 0
  | .zp => 1
  | .zpXInd => 1
  | .zpX => 1
  | .zpY => 1
  | .zpInd => 1
  | .zpIndY => 1

/-- The 7-bit id of a mnemonic: its index in alphabetical order of display text (R64, decision D9). -/
def Mnemonic.id : Mnemonic → BitVec 7
  | .adc => 0
  | .and => 1
  | .asl => 2
  | .bbr0 => 3
  | .bbr1 => 4
  | .bbr2 => 5
  | .bbr3 => 6
  | .bbr4 => 7
  | .bbr5 => 8
  | .bbr6 => 9
  | .bbr7 => 10
  | .bbs0 => 11
  | .bbs1 => 12
  | .bbs2 => 13
  | .bbs3 => 14
  | .bbs4 => 15
  | .bbs5 => 16
  | .bbs6 => 17
  | .bbs7 => 18
  | .bcc => 19
  | .bcs => 20
  | .beq => 21
  | .bit => 22
  | .bmi => 23
  | .bne => 24
  | .bpl => 25
  | .bra => 26
  | .brk => 27
  | .bvc => 28
  | .bvs => 29
  | .clc => 30
  | .cld => 31
  | .cli => 32
  | .clv => 33
  | .cmp => 34
  | .cpx => 35
  | .cpy => 36
  | .dec => 37
  | .dex => 38
  | .dey => 39
  | .eor => 40
  | .inc => 41
  | .inx => 42
  | .iny => 43
  | .jmp => 44
  | .jsr => 45
  | .lda => 46
  | .ldx => 47
  | .ldy => 48
  | .lsr => 49
  | .nop => 50
  | .ora => 51
  | .pha => 52
  | .php => 53
  | .phx => 54
  | .phy => 55
  | .pla => 56
  | .plp => 57
  | .plx => 58
  | .ply => 59
  | .rmb0 => 60
  | .rmb1 => 61
  | .rmb2 => 62
  | .rmb3 => 63
  | .rmb4 => 64
  | .rmb5 => 65
  | .rmb6 => 66
  | .rmb7 => 67
  | .rol => 68
  | .ror => 69
  | .rti => 70
  | .rts => 71
  | .sbc => 72
  | .sec => 73
  | .sed => 74
  | .sei => 75
  | .smb0 => 76
  | .smb1 => 77
  | .smb2 => 78
  | .smb3 => 79
  | .smb4 => 80
  | .smb5 => 81
  | .smb6 => 82
  | .smb7 => 83
  | .sta => 84
  | .stp => 85
  | .stx => 86
  | .sty => 87
  | .stz => 88
  | .tax => 89
  | .tay => 90
  | .trb => 91
  | .tsb => 92
  | .tsx => 93
  | .txa => 94
  | .txs => 95
  | .tya => 96
  | .wai => 97

/-- `text(mnemonic)`: the display text (R64, spelling by decision D20). -/
def Mnemonic.text : Mnemonic → Text
  | .adc => ['A', 'D', 'C']
  | .and => ['A', 'N', 'D']
  | .asl => ['A', 'S', 'L']
  | .bbr0 => ['B', 'B', 'R', '0']
  | .bbr1 => ['B', 'B', 'R', '1']
  | .bbr2 => ['B', 'B', 'R', '2']
  | .bbr3 => ['B', 'B', 'R', '3']
  | .bbr4 => ['B', 'B', 'R', '4']
  | .bbr5 => ['B', 'B', 'R', '5']
  | .bbr6 => ['B', 'B', 'R', '6']
  | .bbr7 => ['B', 'B', 'R', '7']
  | .bbs0 => ['B', 'B', 'S', '0']
  | .bbs1 => ['B', 'B', 'S', '1']
  | .bbs2 => ['B', 'B', 'S', '2']
  | .bbs3 => ['B', 'B', 'S', '3']
  | .bbs4 => ['B', 'B', 'S', '4']
  | .bbs5 => ['B', 'B', 'S', '5']
  | .bbs6 => ['B', 'B', 'S', '6']
  | .bbs7 => ['B', 'B', 'S', '7']
  | .bcc => ['B', 'C', 'C']
  | .bcs => ['B', 'C', 'S']
  | .beq => ['B', 'E', 'Q']
  | .bit => ['B', 'I', 'T']
  | .bmi => ['B', 'M', 'I']
  | .bne => ['B', 'N', 'E']
  | .bpl => ['B', 'P', 'L']
  | .bra => ['B', 'R', 'A']
  | .brk => ['B', 'R', 'K']
  | .bvc => ['B', 'V', 'C']
  | .bvs => ['B', 'V', 'S']
  | .clc => ['C', 'L', 'C']
  | .cld => ['C', 'L', 'D']
  | .cli => ['C', 'L', 'I']
  | .clv => ['C', 'L', 'V']
  | .cmp => ['C', 'M', 'P']
  | .cpx => ['C', 'P', 'X']
  | .cpy => ['C', 'P', 'Y']
  | .dec => ['D', 'E', 'C']
  | .dex => ['D', 'E', 'X']
  | .dey => ['D', 'E', 'Y']
  | .eor => ['E', 'O', 'R']
  | .inc => ['I', 'N', 'C']
  | .inx => ['I', 'N', 'X']
  | .iny => ['I', 'N', 'Y']
  | .jmp => ['J', 'M', 'P']
  | .jsr => ['J', 'S', 'R']
  | .lda => ['L', 'D', 'A']
  | .ldx => ['L', 'D', 'X']
  | .ldy => ['L', 'D', 'Y']
  | .lsr => ['L', 'S', 'R']
  | .nop => ['N', 'O', 'P']
  | .ora => ['O', 'R', 'A']
  | .pha => ['P', 'H', 'A']
  | .php => ['P', 'H', 'P']
  | .phx => ['P', 'H', 'X']
  | .phy => ['P', 'H', 'Y']
  | .pla => ['P', 'L', 'A']
  | .plp => ['P', 'L', 'P']
  | .plx => ['P', 'L', 'X']
  | .ply => ['P', 'L', 'Y']
  | .rmb0 => ['R', 'M', 'B', '0']
  | .rmb1 => ['R', 'M', 'B', '1']
  | .rmb2 => ['R', 'M', 'B', '2']
  | .rmb3 => ['R', 'M', 'B', '3']
  | .rmb4 => ['R', 'M', 'B', '4']
  | .rmb5 => ['R', 'M', 'B', '5']
  | .rmb6 => ['R', 'M', 'B', '6']
  | .rmb7 => ['R', 'M', 'B', '7']
  | .rol => ['R', 'O', 'L']
  | .ror => ['R', 'O', 'R']
  | .rti => ['R', 'T', 'I']
  | .rts => ['R', 'T', 'S']
  | .sbc => ['S', 'B', 'C']
  | .sec => ['S', 'E', 'C']
  | .sed => ['S', 'E', 'D']
  | .sei => ['S', 'E', 'I']
  | .smb0 => ['S', 'M', 'B', '0']
  | .smb1 => ['S', 'M', 'B', '1']
  | .smb2 => ['S', 'M', 'B', '2']
  | .smb3 => ['S', 'M', 'B', '3']
  | .smb4 => ['S', 'M', 'B', '4']
  | .smb5 => ['S', 'M', 'B', '5']
  | .smb6 => ['S', 'M', 'B', '6']
  | .smb7 => ['S', 'M', 'B', '7']
  | .sta => ['S', 'T', 'A']
  | .stp => ['S', 'T', 'P']
  | .stx => ['S', 'T', 'X']
  | .sty => ['S', 'T', 'Y']
  | .stz => ['S', 'T', 'Z']
  | .tax => ['T', 'A', 'X']
  | .tay => ['T', 'A', 'Y']
  | .trb => ['T', 'R', 'B']
  | .tsb => ['T', 'S', 'B']
  | .tsx => ['T', 'S', 'X']
  | .txa => ['T', 'X', 'A']
  | .txs => ['T', 'X', 'S']
  | .tya => ['T', 'Y', 'A']
  | .wai => ['W', 'A', 'I']

namespace Rom

/-- Row 0x of the opcode map (R65). -/
def row0 : List RomCell :=
  [some (.brk, .stk), some (.ora, .zpXInd), none, none,
   some (.tsb, .zp), some (.ora, .zp), some (.asl, .zp), some (.rmb0, .zp),
   some (.php, .stk), some (.ora, .imm), some (.asl, .acc), none,
   some (.tsb, .abs), some (.ora, .abs), some (.asl, .abs), some (.bbr0, Config.bbxMode)]

/-- Row 1x of the opcode map (R65). -/
def row1 : List RomCell :=
  [some (.bpl, .rel), some (.ora, .zpIndY), some (.ora, .zpInd), none,
   some (.trb, .zp), some (.ora, .zpX), some (.asl, .zpX), some (.rmb1, .zp),
   some (.clc, .imp), some (.ora, .absY), some (.inc, .acc), none,
   some (.trb, .abs), some (.ora, .absX), some (.asl, .absX), some (.bbr1, Config.bbxMode)]

/-- Row 2x of the opcode map (R65). -/
def row2 : List RomCell :=
  [some (.jsr, .abs), some (.and, .zpXInd), none, none,
   some (.bit, .zp), some (.and, .zp), some (.rol, .zp), some (.rmb2, .zp),
   some (.plp, .stk), some (.and, .imm), some (.rol, .acc), none,
   some (.bit, .abs), some (.and, .abs), some (.rol, .abs), some (.bbr2, Config.bbxMode)]

/-- Row 3x of the opcode map (R65). -/
def row3 : List RomCell :=
  [some (.bmi, .rel), some (.and, .zpIndY), some (.and, .zpInd), none,
   some (.bit, .zpX), some (.and, .zpX), some (.rol, .zpX), some (.rmb3, .zp),
   some (.sec, .imp), some (.and, .absY), some (.dec, .acc), none,
   some (.bit, .absX), some (.and, .absX), some (.rol, .absX), some (.bbr3, Config.bbxMode)]

/-- Row 4x of the opcode map (R65). -/
def row4 : List RomCell :=
  [some (.rti, .stk), some (.eor, .zpXInd), none, none,
   none, some (.eor, .zp), some (.lsr, .zp), some (.rmb4, .zp),
   some (.pha, .stk), some (.eor, .imm), some (.lsr, .acc), none,
   some (.jmp, .abs), some (.eor, .abs), some (.lsr, .abs), some (.bbr4, Config.bbxMode)]

/-- Row 5x of the opcode map (R65). -/
def row5 : List RomCell :=
  [some (.bvc, .rel), some (.eor, .zpIndY), some (.eor, .zpInd), none,
   none, some (.eor, .zpX), some (.lsr, .zpX), some (.rmb5, .zp),
   some (.cli, .imp), some (.eor, .absY), some (.phy, .stk), none,
   none, some (.eor, .absX), some (.lsr, .absX), some (.bbr5, Config.bbxMode)]

/-- Row 6x of the opcode map (R65). -/
def row6 : List RomCell :=
  [some (.rts, .stk), some (.adc, .zpXInd), none, none,
   some (.stz, .zp), some (.adc, .zp), some (.ror, .zp), some (.rmb6, .zp),
   some (.pla, .stk), some (.adc, .imm), some (.ror, .acc), none,
   some (.jmp, .absInd), some (.adc, .abs), some (.ror, .abs), some (.bbr6, Config.bbxMode)]

/-- Row 7x of the opcode map (R65). -/
def row7 : List RomCell :=
  [some (.bvs, .rel), some (.adc, .zpIndY), some (.adc, .zpInd), none,
   some (.stz, .zpX), some (.adc, .zpX), some (.ror, .zpX), some (.rmb7, .zp),
   some (.sei, .imp), some (.adc, .absY), some (.ply, .stk), none,
   some (.jmp, .absXInd), some (.adc, .absX), some (.ror, .absX), some (.bbr7, Config.bbxMode)]

/-- Row 8x of the opcode map (R65). -/
def row8 : List RomCell :=
  [some (.bra, .rel), some (.sta, .zpXInd), none, none,
   some (.sty, .zp), some (.sta, .zp), some (.stx, .zp), some (.smb0, .zp),
   some (.dey, .imp), some (.bit, .imm), some (.txa, .imp), none,
   some (.sty, .abs), some (.sta, .abs), some (.stx, .abs), some (.bbs0, Config.bbxMode)]

/-- Row 9x of the opcode map (R65). -/
def row9 : List RomCell :=
  [some (.bcc, .rel), some (.sta, .zpIndY), some (.sta, .zpInd), none,
   some (.sty, .zpX), some (.sta, .zpX), some (.stx, .zpY), some (.smb1, .zp),
   some (.tya, .imp), some (.sta, .absY), some (.txs, .imp), none,
   some (.stz, .abs), some (.sta, .absX), some (.stz, .absX), some (.bbs1, Config.bbxMode)]

/-- Row Ax of the opcode map (R65). -/
def rowA : List RomCell :=
  [some (.ldy, .imm), some (.lda, .zpXInd), some (.ldx, .imm), none,
   some (.ldy, .zp), some (.lda, .zp), some (.ldx, .zp), some (.smb2, .zp),
   some (.tay, .imp), some (.lda, .imm), some (.tax, .imp), none,
   some (.ldy, .abs), some (.lda, .abs), some (.ldx, .abs), some (.bbs2, Config.bbxMode)]

/-- Row Bx of the opcode map (R65). -/
def rowB : List RomCell :=
  [some (.bcs, .rel), some (.lda, .zpIndY), some (.lda, .zpInd), none,
   some (.ldy, .zpX), some (.lda, .zpX), some (.ldx, .zpY), some (.smb3, .zp),
   some (.clv, .imp), some (.lda, .absY), some (.tsx, .imp), none,
   some (.ldy, .absX), some (.lda, .absX), some (.ldx, .absY), some (.bbs3, Config.bbxMode)]

/-- Row Cx of the opcode map (R65). -/
def rowC : List RomCell :=
  [some (.cpy, .imm), some (.cmp, .zpXInd), none, none,
   some (.cpy, .zp), some (.cmp, .zp), some (.dec, .zp), some (.smb4, .zp),
   some (.iny, .imp), some (.cmp, .imm), some (.dex, .imp), some (.wai, .imp),
   some (.cpy, .abs), some (.cmp, .abs), some (.dec, .abs), some (.bbs4, Config.bbxMode)]

/-- Row Dx of the opcode map (R65). -/
def rowD : List RomCell :=
  [some (.bne, .rel), some (.cmp, .zpIndY), some (.cmp, .zpInd), none,
   none, some (.cmp, .zpX), some (.dec, .zpX), some (.smb5, .zp),
   some (.cld, .imp), some (.cmp, .absY), some (.phx, .stk), some (.stp, .imp),
   none, some (.cmp, .absX), some (.dec, .absX), some (.bbs5, Config.bbxMode)]

/-- Row Ex of the opcode map (R65). -/
def rowE : List RomCell :=
  [some (.cpx, .imm), some (.sbc, .zpXInd), none, none,
   some (.cpx, .zp), some (.sbc, .zp), some (.inc, .zp), some (.smb6, .zp),
   some (.inx, .imp), some (.sbc, .imm), some (.nop, .imp), none,
   some (.cpx, .abs), some (.sbc, .abs), some (.inc, .abs), some (.bbs6, Config.bbxMode)]

/-- Row Fx of the opcode map (R65). -/
def rowF : List RomCell :=
  [some (.beq, .rel), some (.sbc, .zpIndY), some (.sbc, .zpInd), none,
   none, some (.sbc, .zpX), some (.inc, .zpX), some (.smb7, .zp),
   some (.sed, .imp), some (.sbc, .absY), some (.plx, .stk), none,
   none, some (.sbc, .absX), some (.inc, .absX), some (.bbs7, Config.bbxMode)]

/-- The 256 cells in opcode order. -/
def table : List RomCell :=
  row0 ++ row1 ++ row2 ++ row3 ++ row4 ++ row5 ++ row6 ++ row7 ++
  row8 ++ row9 ++ rowA ++ rowB ++ rowC ++ rowD ++ rowE ++ rowF

end Rom

/-- `ROM[b]` (R32, R42): every byte value has a cell. -/
def rom (b : Byte) : RomCell := Rom.table.getD b.toNat none

/-- The 12-bit ROM word of R32: bit 11 valid, bits 10:4 mnemonic id, bits 3:0 mode id; all zero when not valid. -/
def romWord (b : Byte) : BitVec 12 :=
  match rom b with
  | none => 0
  | some (m, md) => 1#1 ++ m.id ++ md.id

/-- The first classification function: `ROM[b].mnemonic`, or none (R100). -/
def classifyMnemonic (b : Byte) : Option Mnemonic := (rom b).map Prod.fst

/-- The second classification function: `ROM[b].mode`, or none (R100). -/
def classifyAddressingMode (b : Byte) : Option Mode := (rom b).map Prod.snd

/-- `resolve(b)`, the opcode ROM lookup (R100). A mismatch of the two functions is no match (R67). -/
def resolve (b : Byte) : Option Descriptor :=
  match classifyMnemonic b, classifyAddressingMode b with
  | some m, some md => some { byte := b, mnemonic := m, mode := md, text := m.text, count := md.count }
  | _, _ => none

end Sys2Proof
end

