-- ==== Sys2Proof/Syntax.lean ====
section
/-! DEFINITION. The instructions: one constructor per row of spec/opcode_table.json (R77), in the table's order. An
operand byte is a `Byte` (an immediate value `imm`, a zero-page byte `zp`, a relative offset byte `off`), two operand
bytes are the 16-bit `addr` they assemble to (R43, R60). -/

namespace Sys2Proof

/-- One instruction of the opcode map (R65) with its operand. -/
inductive Instr where
  | brk -- 0x00 BRK STK
  | oraZpXInd (zp : Byte) -- 0x01 ORA ZP_X_IND
  | tsbZp (zp : Byte) -- 0x04 TSB ZP
  | oraZp (zp : Byte) -- 0x05 ORA ZP
  | aslZp (zp : Byte) -- 0x06 ASL ZP
  | rmb0 (zp : Byte) -- 0x07 RMB0 ZP
  | php -- 0x08 PHP STK
  | oraImm (imm : Byte) -- 0x09 ORA IMM
  | aslAcc -- 0x0A ASL ACC
  | tsbAbs (addr : Operand) -- 0x0C TSB ABS
  | oraAbs (addr : Operand) -- 0x0D ORA ABS
  | aslAbs (addr : Operand) -- 0x0E ASL ABS
  | bbr0 (off : Byte) -- 0x0F BBR0 REL
  | bpl (off : Byte) -- 0x10 BPL REL
  | oraZpIndY (zp : Byte) -- 0x11 ORA ZP_IND_Y
  | oraZpInd (zp : Byte) -- 0x12 ORA ZP_IND
  | trbZp (zp : Byte) -- 0x14 TRB ZP
  | oraZpX (zp : Byte) -- 0x15 ORA ZP_X
  | aslZpX (zp : Byte) -- 0x16 ASL ZP_X
  | rmb1 (zp : Byte) -- 0x17 RMB1 ZP
  | clc -- 0x18 CLC IMP
  | oraAbsY (addr : Operand) -- 0x19 ORA ABS_Y
  | incAcc -- 0x1A INC ACC
  | trbAbs (addr : Operand) -- 0x1C TRB ABS
  | oraAbsX (addr : Operand) -- 0x1D ORA ABS_X
  | aslAbsX (addr : Operand) -- 0x1E ASL ABS_X
  | bbr1 (off : Byte) -- 0x1F BBR1 REL
  | jsr (addr : Operand) -- 0x20 JSR ABS
  | andZpXInd (zp : Byte) -- 0x21 AND ZP_X_IND
  | bitZp (zp : Byte) -- 0x24 BIT ZP
  | andZp (zp : Byte) -- 0x25 AND ZP
  | rolZp (zp : Byte) -- 0x26 ROL ZP
  | rmb2 (zp : Byte) -- 0x27 RMB2 ZP
  | plp -- 0x28 PLP STK
  | andImm (imm : Byte) -- 0x29 AND IMM
  | rolAcc -- 0x2A ROL ACC
  | bitAbs (addr : Operand) -- 0x2C BIT ABS
  | andAbs (addr : Operand) -- 0x2D AND ABS
  | rolAbs (addr : Operand) -- 0x2E ROL ABS
  | bbr2 (off : Byte) -- 0x2F BBR2 REL
  | bmi (off : Byte) -- 0x30 BMI REL
  | andZpIndY (zp : Byte) -- 0x31 AND ZP_IND_Y
  | andZpInd (zp : Byte) -- 0x32 AND ZP_IND
  | bitZpX (zp : Byte) -- 0x34 BIT ZP_X
  | andZpX (zp : Byte) -- 0x35 AND ZP_X
  | rolZpX (zp : Byte) -- 0x36 ROL ZP_X
  | rmb3 (zp : Byte) -- 0x37 RMB3 ZP
  | sec -- 0x38 SEC IMP
  | andAbsY (addr : Operand) -- 0x39 AND ABS_Y
  | decAcc -- 0x3A DEC ACC
  | bitAbsX (addr : Operand) -- 0x3C BIT ABS_X
  | andAbsX (addr : Operand) -- 0x3D AND ABS_X
  | rolAbsX (addr : Operand) -- 0x3E ROL ABS_X
  | bbr3 (off : Byte) -- 0x3F BBR3 REL
  | rti -- 0x40 RTI STK
  | eorZpXInd (zp : Byte) -- 0x41 EOR ZP_X_IND
  | eorZp (zp : Byte) -- 0x45 EOR ZP
  | lsrZp (zp : Byte) -- 0x46 LSR ZP
  | rmb4 (zp : Byte) -- 0x47 RMB4 ZP
  | pha -- 0x48 PHA STK
  | eorImm (imm : Byte) -- 0x49 EOR IMM
  | lsrAcc -- 0x4A LSR ACC
  | jmpAbs (addr : Operand) -- 0x4C JMP ABS
  | eorAbs (addr : Operand) -- 0x4D EOR ABS
  | lsrAbs (addr : Operand) -- 0x4E LSR ABS
  | bbr4 (off : Byte) -- 0x4F BBR4 REL
  | bvc (off : Byte) -- 0x50 BVC REL
  | eorZpIndY (zp : Byte) -- 0x51 EOR ZP_IND_Y
  | eorZpInd (zp : Byte) -- 0x52 EOR ZP_IND
  | eorZpX (zp : Byte) -- 0x55 EOR ZP_X
  | lsrZpX (zp : Byte) -- 0x56 LSR ZP_X
  | rmb5 (zp : Byte) -- 0x57 RMB5 ZP
  | cli -- 0x58 CLI IMP
  | eorAbsY (addr : Operand) -- 0x59 EOR ABS_Y
  | phy -- 0x5A PHY STK
  | eorAbsX (addr : Operand) -- 0x5D EOR ABS_X
  | lsrAbsX (addr : Operand) -- 0x5E LSR ABS_X
  | bbr5 (off : Byte) -- 0x5F BBR5 REL
  | rts -- 0x60 RTS STK
  | adcZpXInd (zp : Byte) -- 0x61 ADC ZP_X_IND
  | stzZp (zp : Byte) -- 0x64 STZ ZP
  | adcZp (zp : Byte) -- 0x65 ADC ZP
  | rorZp (zp : Byte) -- 0x66 ROR ZP
  | rmb6 (zp : Byte) -- 0x67 RMB6 ZP
  | pla -- 0x68 PLA STK
  | adcImm (imm : Byte) -- 0x69 ADC IMM
  | rorAcc -- 0x6A ROR ACC
  | jmpAbsInd (addr : Operand) -- 0x6C JMP ABS_IND
  | adcAbs (addr : Operand) -- 0x6D ADC ABS
  | rorAbs (addr : Operand) -- 0x6E ROR ABS
  | bbr6 (off : Byte) -- 0x6F BBR6 REL
  | bvs (off : Byte) -- 0x70 BVS REL
  | adcZpIndY (zp : Byte) -- 0x71 ADC ZP_IND_Y
  | adcZpInd (zp : Byte) -- 0x72 ADC ZP_IND
  | stzZpX (zp : Byte) -- 0x74 STZ ZP_X
  | adcZpX (zp : Byte) -- 0x75 ADC ZP_X
  | rorZpX (zp : Byte) -- 0x76 ROR ZP_X
  | rmb7 (zp : Byte) -- 0x77 RMB7 ZP
  | sei -- 0x78 SEI IMP
  | adcAbsY (addr : Operand) -- 0x79 ADC ABS_Y
  | ply -- 0x7A PLY STK
  | jmpAbsXInd (addr : Operand) -- 0x7C JMP ABS_X_IND
  | adcAbsX (addr : Operand) -- 0x7D ADC ABS_X
  | rorAbsX (addr : Operand) -- 0x7E ROR ABS_X
  | bbr7 (off : Byte) -- 0x7F BBR7 REL
  | bra (off : Byte) -- 0x80 BRA REL
  | staZpXInd (zp : Byte) -- 0x81 STA ZP_X_IND
  | styZp (zp : Byte) -- 0x84 STY ZP
  | staZp (zp : Byte) -- 0x85 STA ZP
  | stxZp (zp : Byte) -- 0x86 STX ZP
  | smb0 (zp : Byte) -- 0x87 SMB0 ZP
  | dey -- 0x88 DEY IMP
  | bitImm (imm : Byte) -- 0x89 BIT IMM
  | txa -- 0x8A TXA IMP
  | styAbs (addr : Operand) -- 0x8C STY ABS
  | staAbs (addr : Operand) -- 0x8D STA ABS
  | stxAbs (addr : Operand) -- 0x8E STX ABS
  | bbs0 (off : Byte) -- 0x8F BBS0 REL
  | bcc (off : Byte) -- 0x90 BCC REL
  | staZpIndY (zp : Byte) -- 0x91 STA ZP_IND_Y
  | staZpInd (zp : Byte) -- 0x92 STA ZP_IND
  | styZpX (zp : Byte) -- 0x94 STY ZP_X
  | staZpX (zp : Byte) -- 0x95 STA ZP_X
  | stxZpY (zp : Byte) -- 0x96 STX ZP_Y
  | smb1 (zp : Byte) -- 0x97 SMB1 ZP
  | tya -- 0x98 TYA IMP
  | staAbsY (addr : Operand) -- 0x99 STA ABS_Y
  | txs -- 0x9A TXS IMP
  | stzAbs (addr : Operand) -- 0x9C STZ ABS
  | staAbsX (addr : Operand) -- 0x9D STA ABS_X
  | stzAbsX (addr : Operand) -- 0x9E STZ ABS_X
  | bbs1 (off : Byte) -- 0x9F BBS1 REL
  | ldyImm (imm : Byte) -- 0xA0 LDY IMM
  | ldaZpXInd (zp : Byte) -- 0xA1 LDA ZP_X_IND
  | ldxImm (imm : Byte) -- 0xA2 LDX IMM
  | ldyZp (zp : Byte) -- 0xA4 LDY ZP
  | ldaZp (zp : Byte) -- 0xA5 LDA ZP
  | ldxZp (zp : Byte) -- 0xA6 LDX ZP
  | smb2 (zp : Byte) -- 0xA7 SMB2 ZP
  | tay -- 0xA8 TAY IMP
  | ldaImm (imm : Byte) -- 0xA9 LDA IMM
  | tax -- 0xAA TAX IMP
  | ldyAbs (addr : Operand) -- 0xAC LDY ABS
  | ldaAbs (addr : Operand) -- 0xAD LDA ABS
  | ldxAbs (addr : Operand) -- 0xAE LDX ABS
  | bbs2 (off : Byte) -- 0xAF BBS2 REL
  | bcs (off : Byte) -- 0xB0 BCS REL
  | ldaZpIndY (zp : Byte) -- 0xB1 LDA ZP_IND_Y
  | ldaZpInd (zp : Byte) -- 0xB2 LDA ZP_IND
  | ldyZpX (zp : Byte) -- 0xB4 LDY ZP_X
  | ldaZpX (zp : Byte) -- 0xB5 LDA ZP_X
  | ldxZpY (zp : Byte) -- 0xB6 LDX ZP_Y
  | smb3 (zp : Byte) -- 0xB7 SMB3 ZP
  | clv -- 0xB8 CLV IMP
  | ldaAbsY (addr : Operand) -- 0xB9 LDA ABS_Y
  | tsx -- 0xBA TSX IMP
  | ldyAbsX (addr : Operand) -- 0xBC LDY ABS_X
  | ldaAbsX (addr : Operand) -- 0xBD LDA ABS_X
  | ldxAbsY (addr : Operand) -- 0xBE LDX ABS_Y
  | bbs3 (off : Byte) -- 0xBF BBS3 REL
  | cpyImm (imm : Byte) -- 0xC0 CPY IMM
  | cmpZpXInd (zp : Byte) -- 0xC1 CMP ZP_X_IND
  | cpyZp (zp : Byte) -- 0xC4 CPY ZP
  | cmpZp (zp : Byte) -- 0xC5 CMP ZP
  | decZp (zp : Byte) -- 0xC6 DEC ZP
  | smb4 (zp : Byte) -- 0xC7 SMB4 ZP
  | iny -- 0xC8 INY IMP
  | cmpImm (imm : Byte) -- 0xC9 CMP IMM
  | dex -- 0xCA DEX IMP
  | wai -- 0xCB WAI IMP
  | cpyAbs (addr : Operand) -- 0xCC CPY ABS
  | cmpAbs (addr : Operand) -- 0xCD CMP ABS
  | decAbs (addr : Operand) -- 0xCE DEC ABS
  | bbs4 (off : Byte) -- 0xCF BBS4 REL
  | bne (off : Byte) -- 0xD0 BNE REL
  | cmpZpIndY (zp : Byte) -- 0xD1 CMP ZP_IND_Y
  | cmpZpInd (zp : Byte) -- 0xD2 CMP ZP_IND
  | cmpZpX (zp : Byte) -- 0xD5 CMP ZP_X
  | decZpX (zp : Byte) -- 0xD6 DEC ZP_X
  | smb5 (zp : Byte) -- 0xD7 SMB5 ZP
  | cld -- 0xD8 CLD IMP
  | cmpAbsY (addr : Operand) -- 0xD9 CMP ABS_Y
  | phx -- 0xDA PHX STK
  | stp -- 0xDB STP IMP
  | cmpAbsX (addr : Operand) -- 0xDD CMP ABS_X
  | decAbsX (addr : Operand) -- 0xDE DEC ABS_X
  | bbs5 (off : Byte) -- 0xDF BBS5 REL
  | cpxImm (imm : Byte) -- 0xE0 CPX IMM
  | sbcZpXInd (zp : Byte) -- 0xE1 SBC ZP_X_IND
  | cpxZp (zp : Byte) -- 0xE4 CPX ZP
  | sbcZp (zp : Byte) -- 0xE5 SBC ZP
  | incZp (zp : Byte) -- 0xE6 INC ZP
  | smb6 (zp : Byte) -- 0xE7 SMB6 ZP
  | inx -- 0xE8 INX IMP
  | sbcImm (imm : Byte) -- 0xE9 SBC IMM
  | nop -- 0xEA NOP IMP
  | cpxAbs (addr : Operand) -- 0xEC CPX ABS
  | sbcAbs (addr : Operand) -- 0xED SBC ABS
  | incAbs (addr : Operand) -- 0xEE INC ABS
  | bbs6 (off : Byte) -- 0xEF BBS6 REL
  | beq (off : Byte) -- 0xF0 BEQ REL
  | sbcZpIndY (zp : Byte) -- 0xF1 SBC ZP_IND_Y
  | sbcZpInd (zp : Byte) -- 0xF2 SBC ZP_IND
  | sbcZpX (zp : Byte) -- 0xF5 SBC ZP_X
  | incZpX (zp : Byte) -- 0xF6 INC ZP_X
  | smb7 (zp : Byte) -- 0xF7 SMB7 ZP
  | sed -- 0xF8 SED IMP
  | sbcAbsY (addr : Operand) -- 0xF9 SBC ABS_Y
  | plx -- 0xFA PLX STK
  | sbcAbsX (addr : Operand) -- 0xFD SBC ABS_X
  | incAbsX (addr : Operand) -- 0xFE INC ABS_X
  | bbs7 (off : Byte) -- 0xFF BBS7 REL
deriving DecidableEq, Repr

end Sys2Proof
end

