-- ==== Sys2Proof/WellFormed.lean ====
section
/-! DEFINITION. When a list of bytes is the encoding of one instruction (R60): the opcode byte has a ROM entry, and
exactly `count(mode)` operand bytes follow it. `Instr` itself cannot be ill-formed, since each operand field has exactly
the encoding's width; `Instr.wellFormed` in Decode.lean is this check on an instruction's own bytes. -/

namespace Sys2Proof

/-- Check 1: the first byte is there and is a defined opcode (R65, R66). -/
def opcodeDefined : List Byte → Bool
  | [] => false
  | b :: _ => (rom b).isSome

/-- Check 2: the bytes after the opcode are exactly as many as its mode takes (R60, R62). -/
def operandCountFits : List Byte → Bool
  | [] => false
  | b :: ops =>
    match rom b with
    | none => false
    | some (_, md) => ops.length == md.count.val

/-- The bytes are one whole instruction of the block (R60). -/
def wellFormedBytes (bs : List Byte) : Bool := opcodeDefined bs && operandCountFits bs

end Sys2Proof
end

