-- ==== Sys2Proof/Decode.lean ====
section
/-! DEFINITION. The decoder from bytes to instructions, total and rejecting by name, and after it the encoder. Both are
written from the rows of spec/opcode_table.json (R77); neither reads the opcode ROM. -/

namespace Sys2Proof

/-- Why a list of bytes does not begin with an instruction. -/
inductive DecodeError where
  | noBytes                       -- there is no byte to decode
  | undefinedOpcode (b : Byte)    -- the first byte is one of the 44 of R66
  | missingOperand (b : Byte)     -- fewer bytes follow the opcode than its mode takes (R60)
deriving DecidableEq, Repr

/-- A row of the table: an instruction by the number of its operand bytes (formats F0, F1 and F2 of R60). -/
inductive Shape where
  | op0 (i : Instr)
  | op1 (f : Byte → Instr)
  | op2 (f : Operand → Instr)

namespace DecodeTable

/-- The rows whose opcode byte is 0x00 to 0x0F. -/
def row0 : List (Option Shape) :=
  [some (.op0 .brk), some (.op1 .oraZpXInd), none, none,
   some (.op1 .tsbZp), some (.op1 .oraZp), some (.op1 .aslZp), some (.op1 .rmb0),
   some (.op0 .php), some (.op1 .oraImm), some (.op0 .aslAcc), none,
   some (.op2 .tsbAbs), some (.op2 .oraAbs), some (.op2 .aslAbs), some (.op1 .bbr0)]

/-- The rows whose opcode byte is 0x10 to 0x1F. -/
def row1 : List (Option Shape) :=
  [some (.op1 .bpl), some (.op1 .oraZpIndY), some (.op1 .oraZpInd), none,
   some (.op1 .trbZp), some (.op1 .oraZpX), some (.op1 .aslZpX), some (.op1 .rmb1),
   some (.op0 .clc), some (.op2 .oraAbsY), some (.op0 .incAcc), none,
   some (.op2 .trbAbs), some (.op2 .oraAbsX), some (.op2 .aslAbsX), some (.op1 .bbr1)]

/-- The rows whose opcode byte is 0x20 to 0x2F. -/
def row2 : List (Option Shape) :=
  [some (.op2 .jsr), some (.op1 .andZpXInd), none, none,
   some (.op1 .bitZp), some (.op1 .andZp), some (.op1 .rolZp), some (.op1 .rmb2),
   some (.op0 .plp), some (.op1 .andImm), some (.op0 .rolAcc), none,
   some (.op2 .bitAbs), some (.op2 .andAbs), some (.op2 .rolAbs), some (.op1 .bbr2)]

/-- The rows whose opcode byte is 0x30 to 0x3F. -/
def row3 : List (Option Shape) :=
  [some (.op1 .bmi), some (.op1 .andZpIndY), some (.op1 .andZpInd), none,
   some (.op1 .bitZpX), some (.op1 .andZpX), some (.op1 .rolZpX), some (.op1 .rmb3),
   some (.op0 .sec), some (.op2 .andAbsY), some (.op0 .decAcc), none,
   some (.op2 .bitAbsX), some (.op2 .andAbsX), some (.op2 .rolAbsX), some (.op1 .bbr3)]

/-- The rows whose opcode byte is 0x40 to 0x4F. -/
def row4 : List (Option Shape) :=
  [some (.op0 .rti), some (.op1 .eorZpXInd), none, none,
   none, some (.op1 .eorZp), some (.op1 .lsrZp), some (.op1 .rmb4),
   some (.op0 .pha), some (.op1 .eorImm), some (.op0 .lsrAcc), none,
   some (.op2 .jmpAbs), some (.op2 .eorAbs), some (.op2 .lsrAbs), some (.op1 .bbr4)]

/-- The rows whose opcode byte is 0x50 to 0x5F. -/
def row5 : List (Option Shape) :=
  [some (.op1 .bvc), some (.op1 .eorZpIndY), some (.op1 .eorZpInd), none,
   none, some (.op1 .eorZpX), some (.op1 .lsrZpX), some (.op1 .rmb5),
   some (.op0 .cli), some (.op2 .eorAbsY), some (.op0 .phy), none,
   none, some (.op2 .eorAbsX), some (.op2 .lsrAbsX), some (.op1 .bbr5)]

/-- The rows whose opcode byte is 0x60 to 0x6F. -/
def row6 : List (Option Shape) :=
  [some (.op0 .rts), some (.op1 .adcZpXInd), none, none,
   some (.op1 .stzZp), some (.op1 .adcZp), some (.op1 .rorZp), some (.op1 .rmb6),
   some (.op0 .pla), some (.op1 .adcImm), some (.op0 .rorAcc), none,
   some (.op2 .jmpAbsInd), some (.op2 .adcAbs), some (.op2 .rorAbs), some (.op1 .bbr6)]

/-- The rows whose opcode byte is 0x70 to 0x7F. -/
def row7 : List (Option Shape) :=
  [some (.op1 .bvs), some (.op1 .adcZpIndY), some (.op1 .adcZpInd), none,
   some (.op1 .stzZpX), some (.op1 .adcZpX), some (.op1 .rorZpX), some (.op1 .rmb7),
   some (.op0 .sei), some (.op2 .adcAbsY), some (.op0 .ply), none,
   some (.op2 .jmpAbsXInd), some (.op2 .adcAbsX), some (.op2 .rorAbsX), some (.op1 .bbr7)]

/-- The rows whose opcode byte is 0x80 to 0x8F. -/
def row8 : List (Option Shape) :=
  [some (.op1 .bra), some (.op1 .staZpXInd), none, none,
   some (.op1 .styZp), some (.op1 .staZp), some (.op1 .stxZp), some (.op1 .smb0),
   some (.op0 .dey), some (.op1 .bitImm), some (.op0 .txa), none,
   some (.op2 .styAbs), some (.op2 .staAbs), some (.op2 .stxAbs), some (.op1 .bbs0)]

/-- The rows whose opcode byte is 0x90 to 0x9F. -/
def row9 : List (Option Shape) :=
  [some (.op1 .bcc), some (.op1 .staZpIndY), some (.op1 .staZpInd), none,
   some (.op1 .styZpX), some (.op1 .staZpX), some (.op1 .stxZpY), some (.op1 .smb1),
   some (.op0 .tya), some (.op2 .staAbsY), some (.op0 .txs), none,
   some (.op2 .stzAbs), some (.op2 .staAbsX), some (.op2 .stzAbsX), some (.op1 .bbs1)]

/-- The rows whose opcode byte is 0xA0 to 0xAF. -/
def rowA : List (Option Shape) :=
  [some (.op1 .ldyImm), some (.op1 .ldaZpXInd), some (.op1 .ldxImm), none,
   some (.op1 .ldyZp), some (.op1 .ldaZp), some (.op1 .ldxZp), some (.op1 .smb2),
   some (.op0 .tay), some (.op1 .ldaImm), some (.op0 .tax), none,
   some (.op2 .ldyAbs), some (.op2 .ldaAbs), some (.op2 .ldxAbs), some (.op1 .bbs2)]

/-- The rows whose opcode byte is 0xB0 to 0xBF. -/
def rowB : List (Option Shape) :=
  [some (.op1 .bcs), some (.op1 .ldaZpIndY), some (.op1 .ldaZpInd), none,
   some (.op1 .ldyZpX), some (.op1 .ldaZpX), some (.op1 .ldxZpY), some (.op1 .smb3),
   some (.op0 .clv), some (.op2 .ldaAbsY), some (.op0 .tsx), none,
   some (.op2 .ldyAbsX), some (.op2 .ldaAbsX), some (.op2 .ldxAbsY), some (.op1 .bbs3)]

/-- The rows whose opcode byte is 0xC0 to 0xCF. -/
def rowC : List (Option Shape) :=
  [some (.op1 .cpyImm), some (.op1 .cmpZpXInd), none, none,
   some (.op1 .cpyZp), some (.op1 .cmpZp), some (.op1 .decZp), some (.op1 .smb4),
   some (.op0 .iny), some (.op1 .cmpImm), some (.op0 .dex), some (.op0 .wai),
   some (.op2 .cpyAbs), some (.op2 .cmpAbs), some (.op2 .decAbs), some (.op1 .bbs4)]

/-- The rows whose opcode byte is 0xD0 to 0xDF. -/
def rowD : List (Option Shape) :=
  [some (.op1 .bne), some (.op1 .cmpZpIndY), some (.op1 .cmpZpInd), none,
   none, some (.op1 .cmpZpX), some (.op1 .decZpX), some (.op1 .smb5),
   some (.op0 .cld), some (.op2 .cmpAbsY), some (.op0 .phx), some (.op0 .stp),
   none, some (.op2 .cmpAbsX), some (.op2 .decAbsX), some (.op1 .bbs5)]

/-- The rows whose opcode byte is 0xE0 to 0xEF. -/
def rowE : List (Option Shape) :=
  [some (.op1 .cpxImm), some (.op1 .sbcZpXInd), none, none,
   some (.op1 .cpxZp), some (.op1 .sbcZp), some (.op1 .incZp), some (.op1 .smb6),
   some (.op0 .inx), some (.op1 .sbcImm), some (.op0 .nop), none,
   some (.op2 .cpxAbs), some (.op2 .sbcAbs), some (.op2 .incAbs), some (.op1 .bbs6)]

/-- The rows whose opcode byte is 0xF0 to 0xFF. -/
def rowF : List (Option Shape) :=
  [some (.op1 .beq), some (.op1 .sbcZpIndY), some (.op1 .sbcZpInd), none,
   none, some (.op1 .sbcZpX), some (.op1 .incZpX), some (.op1 .smb7),
   some (.op0 .sed), some (.op2 .sbcAbsY), some (.op0 .plx), none,
   none, some (.op2 .sbcAbsX), some (.op2 .incAbsX), some (.op1 .bbs7)]

/-- The 256 entries in opcode order. -/
def table : List (Option Shape) :=
  row0 ++ row1 ++ row2 ++ row3 ++ row4 ++ row5 ++ row6 ++ row7 ++
  row8 ++ row9 ++ rowA ++ rowB ++ rowC ++ rowD ++ rowE ++ rowF

/-- The entry of an opcode byte, none for the 44 undefined ones (R66). -/
def entry (b : Byte) : Option Shape := table.getD b.toNat none

end DecodeTable

/-- The instruction at the head of the bytes, and the bytes after it. The first operand byte is the low one (R43). -/
def decode : List Byte → Except DecodeError (Instr × List Byte)
  | [] => .error .noBytes
  | b :: bs =>
    match DecodeTable.entry b with
    | none => .error (.undefinedOpcode b)
    | some (.op0 i) => .ok (i, bs)
    | some (.op1 f) =>
      match bs with
      | b1 :: rest => .ok (f b1, rest)
      | [] => .error (.missingOperand b)
    | some (.op2 f) =>
      match bs with
      | b1 :: b2 :: rest => .ok (f (joinBytes b2 b1), rest)
      | _ => .error (.missingOperand b)

/-- The bytes of an instruction in stream order: the opcode, then the operand bytes, low byte first (R45, R60). -/
def encode : Instr → List Byte
  | .brk => [0b00000000]
  | .oraZpXInd zp => [0b00000001, zp]
  | .tsbZp zp => [0b00000100, zp]
  | .oraZp zp => [0b00000101, zp]
  | .aslZp zp => [0b00000110, zp]
  | .rmb0 zp => [0b00000111, zp]
  | .php => [0b00001000]
  | .oraImm imm => [0b00001001, imm]
  | .aslAcc => [0b00001010]
  | .tsbAbs addr => [0b00001100, loByte addr, hiByte addr]
  | .oraAbs addr => [0b00001101, loByte addr, hiByte addr]
  | .aslAbs addr => [0b00001110, loByte addr, hiByte addr]
  | .bbr0 off => [0b00001111, off]
  | .bpl off => [0b00010000, off]
  | .oraZpIndY zp => [0b00010001, zp]
  | .oraZpInd zp => [0b00010010, zp]
  | .trbZp zp => [0b00010100, zp]
  | .oraZpX zp => [0b00010101, zp]
  | .aslZpX zp => [0b00010110, zp]
  | .rmb1 zp => [0b00010111, zp]
  | .clc => [0b00011000]
  | .oraAbsY addr => [0b00011001, loByte addr, hiByte addr]
  | .incAcc => [0b00011010]
  | .trbAbs addr => [0b00011100, loByte addr, hiByte addr]
  | .oraAbsX addr => [0b00011101, loByte addr, hiByte addr]
  | .aslAbsX addr => [0b00011110, loByte addr, hiByte addr]
  | .bbr1 off => [0b00011111, off]
  | .jsr addr => [0b00100000, loByte addr, hiByte addr]
  | .andZpXInd zp => [0b00100001, zp]
  | .bitZp zp => [0b00100100, zp]
  | .andZp zp => [0b00100101, zp]
  | .rolZp zp => [0b00100110, zp]
  | .rmb2 zp => [0b00100111, zp]
  | .plp => [0b00101000]
  | .andImm imm => [0b00101001, imm]
  | .rolAcc => [0b00101010]
  | .bitAbs addr => [0b00101100, loByte addr, hiByte addr]
  | .andAbs addr => [0b00101101, loByte addr, hiByte addr]
  | .rolAbs addr => [0b00101110, loByte addr, hiByte addr]
  | .bbr2 off => [0b00101111, off]
  | .bmi off => [0b00110000, off]
  | .andZpIndY zp => [0b00110001, zp]
  | .andZpInd zp => [0b00110010, zp]
  | .bitZpX zp => [0b00110100, zp]
  | .andZpX zp => [0b00110101, zp]
  | .rolZpX zp => [0b00110110, zp]
  | .rmb3 zp => [0b00110111, zp]
  | .sec => [0b00111000]
  | .andAbsY addr => [0b00111001, loByte addr, hiByte addr]
  | .decAcc => [0b00111010]
  | .bitAbsX addr => [0b00111100, loByte addr, hiByte addr]
  | .andAbsX addr => [0b00111101, loByte addr, hiByte addr]
  | .rolAbsX addr => [0b00111110, loByte addr, hiByte addr]
  | .bbr3 off => [0b00111111, off]
  | .rti => [0b01000000]
  | .eorZpXInd zp => [0b01000001, zp]
  | .eorZp zp => [0b01000101, zp]
  | .lsrZp zp => [0b01000110, zp]
  | .rmb4 zp => [0b01000111, zp]
  | .pha => [0b01001000]
  | .eorImm imm => [0b01001001, imm]
  | .lsrAcc => [0b01001010]
  | .jmpAbs addr => [0b01001100, loByte addr, hiByte addr]
  | .eorAbs addr => [0b01001101, loByte addr, hiByte addr]
  | .lsrAbs addr => [0b01001110, loByte addr, hiByte addr]
  | .bbr4 off => [0b01001111, off]
  | .bvc off => [0b01010000, off]
  | .eorZpIndY zp => [0b01010001, zp]
  | .eorZpInd zp => [0b01010010, zp]
  | .eorZpX zp => [0b01010101, zp]
  | .lsrZpX zp => [0b01010110, zp]
  | .rmb5 zp => [0b01010111, zp]
  | .cli => [0b01011000]
  | .eorAbsY addr => [0b01011001, loByte addr, hiByte addr]
  | .phy => [0b01011010]
  | .eorAbsX addr => [0b01011101, loByte addr, hiByte addr]
  | .lsrAbsX addr => [0b01011110, loByte addr, hiByte addr]
  | .bbr5 off => [0b01011111, off]
  | .rts => [0b01100000]
  | .adcZpXInd zp => [0b01100001, zp]
  | .stzZp zp => [0b01100100, zp]
  | .adcZp zp => [0b01100101, zp]
  | .rorZp zp => [0b01100110, zp]
  | .rmb6 zp => [0b01100111, zp]
  | .pla => [0b01101000]
  | .adcImm imm => [0b01101001, imm]
  | .rorAcc => [0b01101010]
  | .jmpAbsInd addr => [0b01101100, loByte addr, hiByte addr]
  | .adcAbs addr => [0b01101101, loByte addr, hiByte addr]
  | .rorAbs addr => [0b01101110, loByte addr, hiByte addr]
  | .bbr6 off => [0b01101111, off]
  | .bvs off => [0b01110000, off]
  | .adcZpIndY zp => [0b01110001, zp]
  | .adcZpInd zp => [0b01110010, zp]
  | .stzZpX zp => [0b01110100, zp]
  | .adcZpX zp => [0b01110101, zp]
  | .rorZpX zp => [0b01110110, zp]
  | .rmb7 zp => [0b01110111, zp]
  | .sei => [0b01111000]
  | .adcAbsY addr => [0b01111001, loByte addr, hiByte addr]
  | .ply => [0b01111010]
  | .jmpAbsXInd addr => [0b01111100, loByte addr, hiByte addr]
  | .adcAbsX addr => [0b01111101, loByte addr, hiByte addr]
  | .rorAbsX addr => [0b01111110, loByte addr, hiByte addr]
  | .bbr7 off => [0b01111111, off]
  | .bra off => [0b10000000, off]
  | .staZpXInd zp => [0b10000001, zp]
  | .styZp zp => [0b10000100, zp]
  | .staZp zp => [0b10000101, zp]
  | .stxZp zp => [0b10000110, zp]
  | .smb0 zp => [0b10000111, zp]
  | .dey => [0b10001000]
  | .bitImm imm => [0b10001001, imm]
  | .txa => [0b10001010]
  | .styAbs addr => [0b10001100, loByte addr, hiByte addr]
  | .staAbs addr => [0b10001101, loByte addr, hiByte addr]
  | .stxAbs addr => [0b10001110, loByte addr, hiByte addr]
  | .bbs0 off => [0b10001111, off]
  | .bcc off => [0b10010000, off]
  | .staZpIndY zp => [0b10010001, zp]
  | .staZpInd zp => [0b10010010, zp]
  | .styZpX zp => [0b10010100, zp]
  | .staZpX zp => [0b10010101, zp]
  | .stxZpY zp => [0b10010110, zp]
  | .smb1 zp => [0b10010111, zp]
  | .tya => [0b10011000]
  | .staAbsY addr => [0b10011001, loByte addr, hiByte addr]
  | .txs => [0b10011010]
  | .stzAbs addr => [0b10011100, loByte addr, hiByte addr]
  | .staAbsX addr => [0b10011101, loByte addr, hiByte addr]
  | .stzAbsX addr => [0b10011110, loByte addr, hiByte addr]
  | .bbs1 off => [0b10011111, off]
  | .ldyImm imm => [0b10100000, imm]
  | .ldaZpXInd zp => [0b10100001, zp]
  | .ldxImm imm => [0b10100010, imm]
  | .ldyZp zp => [0b10100100, zp]
  | .ldaZp zp => [0b10100101, zp]
  | .ldxZp zp => [0b10100110, zp]
  | .smb2 zp => [0b10100111, zp]
  | .tay => [0b10101000]
  | .ldaImm imm => [0b10101001, imm]
  | .tax => [0b10101010]
  | .ldyAbs addr => [0b10101100, loByte addr, hiByte addr]
  | .ldaAbs addr => [0b10101101, loByte addr, hiByte addr]
  | .ldxAbs addr => [0b10101110, loByte addr, hiByte addr]
  | .bbs2 off => [0b10101111, off]
  | .bcs off => [0b10110000, off]
  | .ldaZpIndY zp => [0b10110001, zp]
  | .ldaZpInd zp => [0b10110010, zp]
  | .ldyZpX zp => [0b10110100, zp]
  | .ldaZpX zp => [0b10110101, zp]
  | .ldxZpY zp => [0b10110110, zp]
  | .smb3 zp => [0b10110111, zp]
  | .clv => [0b10111000]
  | .ldaAbsY addr => [0b10111001, loByte addr, hiByte addr]
  | .tsx => [0b10111010]
  | .ldyAbsX addr => [0b10111100, loByte addr, hiByte addr]
  | .ldaAbsX addr => [0b10111101, loByte addr, hiByte addr]
  | .ldxAbsY addr => [0b10111110, loByte addr, hiByte addr]
  | .bbs3 off => [0b10111111, off]
  | .cpyImm imm => [0b11000000, imm]
  | .cmpZpXInd zp => [0b11000001, zp]
  | .cpyZp zp => [0b11000100, zp]
  | .cmpZp zp => [0b11000101, zp]
  | .decZp zp => [0b11000110, zp]
  | .smb4 zp => [0b11000111, zp]
  | .iny => [0b11001000]
  | .cmpImm imm => [0b11001001, imm]
  | .dex => [0b11001010]
  | .wai => [0b11001011]
  | .cpyAbs addr => [0b11001100, loByte addr, hiByte addr]
  | .cmpAbs addr => [0b11001101, loByte addr, hiByte addr]
  | .decAbs addr => [0b11001110, loByte addr, hiByte addr]
  | .bbs4 off => [0b11001111, off]
  | .bne off => [0b11010000, off]
  | .cmpZpIndY zp => [0b11010001, zp]
  | .cmpZpInd zp => [0b11010010, zp]
  | .cmpZpX zp => [0b11010101, zp]
  | .decZpX zp => [0b11010110, zp]
  | .smb5 zp => [0b11010111, zp]
  | .cld => [0b11011000]
  | .cmpAbsY addr => [0b11011001, loByte addr, hiByte addr]
  | .phx => [0b11011010]
  | .stp => [0b11011011]
  | .cmpAbsX addr => [0b11011101, loByte addr, hiByte addr]
  | .decAbsX addr => [0b11011110, loByte addr, hiByte addr]
  | .bbs5 off => [0b11011111, off]
  | .cpxImm imm => [0b11100000, imm]
  | .sbcZpXInd zp => [0b11100001, zp]
  | .cpxZp zp => [0b11100100, zp]
  | .sbcZp zp => [0b11100101, zp]
  | .incZp zp => [0b11100110, zp]
  | .smb6 zp => [0b11100111, zp]
  | .inx => [0b11101000]
  | .sbcImm imm => [0b11101001, imm]
  | .nop => [0b11101010]
  | .cpxAbs addr => [0b11101100, loByte addr, hiByte addr]
  | .sbcAbs addr => [0b11101101, loByte addr, hiByte addr]
  | .incAbs addr => [0b11101110, loByte addr, hiByte addr]
  | .bbs6 off => [0b11101111, off]
  | .beq off => [0b11110000, off]
  | .sbcZpIndY zp => [0b11110001, zp]
  | .sbcZpInd zp => [0b11110010, zp]
  | .sbcZpX zp => [0b11110101, zp]
  | .incZpX zp => [0b11110110, zp]
  | .smb7 zp => [0b11110111, zp]
  | .sed => [0b11111000]
  | .sbcAbsY addr => [0b11111001, loByte addr, hiByte addr]
  | .plx => [0b11111010]
  | .sbcAbsX addr => [0b11111101, loByte addr, hiByte addr]
  | .incAbsX addr => [0b11111110, loByte addr, hiByte addr]
  | .bbs7 off => [0b11111111, off]

/-- The well-formedness check on an instruction: its bytes are one whole instruction of the block (R60). -/
def Instr.wellFormed (i : Instr) : Bool := wellFormedBytes (encode i)

/-- The three bytes of a table word: bit 0 is the least significant bit of the first byte, the second byte is bits 15 to
8, the third is bits 23 to 16; every bit from `nbits` up is 0. -/
def tableBytes (nbits w : Nat) : List Byte :=
  let v := w % 2 ^ nbits
  [BitVec.ofNat 8 v, BitVec.ofNat 8 (v / 256), BitVec.ofNat 8 (v / 65536)]

/-- The instruction the decoder reads from a table word. -/
def decodeTableWord (nbits w : Nat) : Option Instr :=
  match decode (tableBytes nbits w) with
  | .ok (i, _) => some i
  | .error _ => none

/-- The bytes a host feeds for a table word: exactly those of its instruction, or the one byte that does not resolve. -/
def feedOfWord (nbits w : Nat) : List Byte :=
  match decode (tableBytes nbits w) with
  | .ok (_, rest) => (tableBytes nbits w).take (3 - rest.length)
  | .error _ => (tableBytes nbits w).take 1

end Sys2Proof
end

