-- ==== Sys2Proof/Machine/State.lean ====
section
/-! DEFINITION. The state of the block: the six registers of 10_state.md R20, and the bytes the host has handed over. -/

namespace Sys2Proof.Machine

/-- The block has no fault: "There is no fatal/unrecoverable error class in this core" (R300). Nothing raises one, which is
the spec's own rule, so there is no constructor. -/
inductive Fault where
deriving DecidableEq, Repr

/-- Why a step is refused. -/
inductive Refusal where
  /-- Raised by an arm of `exec` for an instruction without a meaning; no arm does so now. Safe: the machine stops. -/
  | notModelled (mnemonic : String)
deriving DecidableEq, Repr

/-- The registers of R20 under their own names, and the host's pending feeds. -/
structure State where
  /-- `DV`, 1 bit: a descriptor is present. -/
  dv    : Bool
  /-- `OPC`, 8 bits: the opcode byte of the current descriptor. -/
  opc   : Byte
  /-- `OV`, 1 bit: an operand is present. -/
  ov    : Bool
  /-- `OPND`, 16 bits: the assembled operand. -/
  opnd  : Operand
  /-- `REM`, the values 0, 1 and 2 only (R23): operand bytes still awaited. -/
  rem   : Fin 3
  /-- `CNT`, 32 bits: bytes consumed since reset, modulo 2^32. -/
  cnt   : Count
  /-- The model's own (log entry 1): the feeds the host has handed over and the block has not taken, oldest first. A feed
  is the bytes the host presents before it next reads an output. -/
  input : List (List Byte)
deriving DecidableEq, Repr

/-- A fresh decoder (R35, R330), with nothing presented to it yet. -/
def State.reset : State :=
  { dv := false, opc := 0x00, ov := false, opnd := 0x0000, rem := 0, cnt := 0, input := [] }

end Sys2Proof.Machine
end

