-- ==== Sys2Proof/Machine/Ops.lean ====
section
/-! DEFINITION. The named operations on the registers: the decode transaction (R102 to R105) and the parts it is made of,
the transactions of a list of bytes (R117), and the shared shapes of an instruction's meaning. There is no exception entry
and no return: the spec says neither exists (R306, R307). -/

namespace Sys2Proof.Machine

/-- The next byte starts an instruction: "`DV = 0 or REM = 0`" (R102 step 2). -/
abbrev State.AtBoundary (s : State) : Prop := s.dv = false ∨ s.rem = 0

/-- `count(ROM[OPC].mode)` of the current descriptor. The cell is never `NoMatch` in a state of the spec (R21, R26). -/
def State.expectedCount (s : State) : Fin 3 :=
  match rom s.opc with
  | some (_, md) => md.count
  | none => Config.countOutsideSpec s.opc

/-- `pos = c - REM`, the position of the next operand byte (R102, R105). `REM` never exceeds `c` in a state of the spec (R26). -/
def State.foldPosition (s : State) : Nat :=
  if s.rem ≤ s.expectedCount then s.expectedCount.val - s.rem.val
  else Config.positionOutsideSpec s.expectedCount s.rem

/-- `REM - 1` of a nonzero remaining count (R102 step 3). -/
def decRem : Fin 3 → Fin 3
  | 0 => 0
  | 1 => 0
  | 2 => 1

/-- `CNT <- CNT + 1`, modulo 2^32 (R24, R102 step 1). -/
def State.countByte (s : State) : State := { s with cnt := s.cnt + 1 }

/-- A byte that does not resolve leaves no descriptor, no operand and nothing awaited (R103). `OPC` is not written. -/
def State.discard (s : State) : State := { s with dv := false, ov := false, opnd := 0, rem := 0 }

/-- A descriptor is installed: the operand is cleared and its expected count is awaited (R102 step 2, R104). -/
def State.install (d : Descriptor) (s : State) : State :=
  { s with dv := true, opc := d.byte, ov := false, opnd := 0, rem := d.count }

/-- An operand byte is folded in at its little-endian position (R102 step 3, R105). -/
def State.fold (b : Byte) (s : State) : State :=
  { s with opnd := s.opnd ||| (zext16 b <<< (8 * s.foldPosition)), ov := true, rem := decRem s.rem }

/-- R102 step 2: a byte that starts an instruction. -/
def startInstruction (b : Byte) (s : State) : State :=
  match resolve b with
  | none => s.discard
  | some d => s.install d

/-- `decodeByte(b)`, the decode transaction (R102). -/
def decodeByte (b : Byte) (s : State) : State :=
  if s.AtBoundary then startInstruction b s.countByte else s.countByte.fold b

/-- Several bytes are that many transactions in stream order (R117). -/
def present : List Byte → State → State
  | [], s => s
  | b :: bs, s => present bs (decodeByte b s)

/-- The oldest feed of the host, and the state without it; none when the host has presented nothing more. -/
def State.takeFeed (s : State) : Option (List Byte × State) :=
  match s.input with
  | [] => none
  | feed :: rest => some (feed, { s with input := rest })

/-- An instruction with no operand byte: one transaction (format F0 of R60). -/
def instruction0 (o : Byte) (s : State) : Host.Outcome State Fault Refusal := .next (decodeByte o s)

/-- An instruction with one operand byte: two transactions (format F1 of R60). -/
def instruction1 (o b1 : Byte) (s : State) : Host.Outcome State Fault Refusal := .next (decodeByte b1 (decodeByte o s))

/-- An instruction with two operand bytes, the low byte first: three transactions (format F2 of R60). -/
def instruction2 (o : Byte) (v : Operand) (s : State) : Host.Outcome State Fault Refusal :=
  .next (decodeByte (hiByte v) (decodeByte (loByte v) (decodeByte o s)))

end Sys2Proof.Machine
end

