-- ==== Sys2Proof/Machine/Alu.lean ====
section
/-! DEFINITION. The meanings of the ALU group: ORA, AND, EOR, ADC, STA, LDA, CMP, SBC (42_alu_group.md, R200 to R207). The effect of an instruction on the block is the decode of its
bytes: it installs its descriptor, folds its operand bytes and is then complete. What the decoded processor would do is
out of scope (R7). -/

namespace Sys2Proof.Machine

/-- R200: `ORA` in mode ZP_X_IND, opcode 0x01. -/
def execOraZpXInd (zp : Byte) (s : State) : Host.Outcome State Fault Refusal := instruction1 0x01 zp s

/-- R200: `ORA` in mode ZP, opcode 0x05. -/
def execOraZp (zp : Byte) (s : State) : Host.Outcome State Fault Refusal := instruction1 0x05 zp s

/-- R200: `ORA` in mode IMM, opcode 0x09. -/
def execOraImm (imm : Byte) (s : State) : Host.Outcome State Fault Refusal := instruction1 0x09 imm s

/-- R200: `ORA` in mode ABS, opcode 0x0D. -/
def execOraAbs (addr : Operand) (s : State) : Host.Outcome State Fault Refusal := instruction2 0x0D addr s

/-- R200: `ORA` in mode ZP_IND_Y, opcode 0x11. -/
def execOraZpIndY (zp : Byte) (s : State) : Host.Outcome State Fault Refusal := instruction1 0x11 zp s

/-- R200: `ORA` in mode ZP_IND, opcode 0x12. -/
def execOraZpInd (zp : Byte) (s : State) : Host.Outcome State Fault Refusal := instruction1 0x12 zp s

/-- R200: `ORA` in mode ZP_X, opcode 0x15. -/
def execOraZpX (zp : Byte) (s : State) : Host.Outcome State Fault Refusal := instruction1 0x15 zp s

/-- R200: `ORA` in mode ABS_Y, opcode 0x19. -/
def execOraAbsY (addr : Operand) (s : State) : Host.Outcome State Fault Refusal := instruction2 0x19 addr s

/-- R200: `ORA` in mode ABS_X, opcode 0x1D. -/
def execOraAbsX (addr : Operand) (s : State) : Host.Outcome State Fault Refusal := instruction2 0x1D addr s

/-- R201: `AND` in mode ZP_X_IND, opcode 0x21. -/
def execAndZpXInd (zp : Byte) (s : State) : Host.Outcome State Fault Refusal := instruction1 0x21 zp s

/-- R201: `AND` in mode ZP, opcode 0x25. -/
def execAndZp (zp : Byte) (s : State) : Host.Outcome State Fault Refusal := instruction1 0x25 zp s

/-- R201: `AND` in mode IMM, opcode 0x29. -/
def execAndImm (imm : Byte) (s : State) : Host.Outcome State Fault Refusal := instruction1 0x29 imm s

/-- R201: `AND` in mode ABS, opcode 0x2D. -/
def execAndAbs (addr : Operand) (s : State) : Host.Outcome State Fault Refusal := instruction2 0x2D addr s

/-- R201: `AND` in mode ZP_IND_Y, opcode 0x31. -/
def execAndZpIndY (zp : Byte) (s : State) : Host.Outcome State Fault Refusal := instruction1 0x31 zp s

/-- R201: `AND` in mode ZP_IND, opcode 0x32. -/
def execAndZpInd (zp : Byte) (s : State) : Host.Outcome State Fault Refusal := instruction1 0x32 zp s

/-- R201: `AND` in mode ZP_X, opcode 0x35. -/
def execAndZpX (zp : Byte) (s : State) : Host.Outcome State Fault Refusal := instruction1 0x35 zp s

/-- R201: `AND` in mode ABS_Y, opcode 0x39. -/
def execAndAbsY (addr : Operand) (s : State) : Host.Outcome State Fault Refusal := instruction2 0x39 addr s

/-- R201: `AND` in mode ABS_X, opcode 0x3D. -/
def execAndAbsX (addr : Operand) (s : State) : Host.Outcome State Fault Refusal := instruction2 0x3D addr s

/-- R202: `EOR` in mode ZP_X_IND, opcode 0x41. -/
def execEorZpXInd (zp : Byte) (s : State) : Host.Outcome State Fault Refusal := instruction1 0x41 zp s

/-- R202: `EOR` in mode ZP, opcode 0x45. -/
def execEorZp (zp : Byte) (s : State) : Host.Outcome State Fault Refusal := instruction1 0x45 zp s

/-- R202: `EOR` in mode IMM, opcode 0x49. -/
def execEorImm (imm : Byte) (s : State) : Host.Outcome State Fault Refusal := instruction1 0x49 imm s

/-- R202: `EOR` in mode ABS, opcode 0x4D. -/
def execEorAbs (addr : Operand) (s : State) : Host.Outcome State Fault Refusal := instruction2 0x4D addr s

/-- R202: `EOR` in mode ZP_IND_Y, opcode 0x51. -/
def execEorZpIndY (zp : Byte) (s : State) : Host.Outcome State Fault Refusal := instruction1 0x51 zp s

/-- R202: `EOR` in mode ZP_IND, opcode 0x52. -/
def execEorZpInd (zp : Byte) (s : State) : Host.Outcome State Fault Refusal := instruction1 0x52 zp s

/-- R202: `EOR` in mode ZP_X, opcode 0x55. -/
def execEorZpX (zp : Byte) (s : State) : Host.Outcome State Fault Refusal := instruction1 0x55 zp s

/-- R202: `EOR` in mode ABS_Y, opcode 0x59. -/
def execEorAbsY (addr : Operand) (s : State) : Host.Outcome State Fault Refusal := instruction2 0x59 addr s

/-- R202: `EOR` in mode ABS_X, opcode 0x5D. -/
def execEorAbsX (addr : Operand) (s : State) : Host.Outcome State Fault Refusal := instruction2 0x5D addr s

/-- R203: `ADC` in mode ZP_X_IND, opcode 0x61. -/
def execAdcZpXInd (zp : Byte) (s : State) : Host.Outcome State Fault Refusal := instruction1 0x61 zp s

/-- R203: `ADC` in mode ZP, opcode 0x65. -/
def execAdcZp (zp : Byte) (s : State) : Host.Outcome State Fault Refusal := instruction1 0x65 zp s

/-- R203: `ADC` in mode IMM, opcode 0x69. -/
def execAdcImm (imm : Byte) (s : State) : Host.Outcome State Fault Refusal := instruction1 0x69 imm s

/-- R203: `ADC` in mode ABS, opcode 0x6D. -/
def execAdcAbs (addr : Operand) (s : State) : Host.Outcome State Fault Refusal := instruction2 0x6D addr s

/-- R203: `ADC` in mode ZP_IND_Y, opcode 0x71. -/
def execAdcZpIndY (zp : Byte) (s : State) : Host.Outcome State Fault Refusal := instruction1 0x71 zp s

/-- R203: `ADC` in mode ZP_IND, opcode 0x72. -/
def execAdcZpInd (zp : Byte) (s : State) : Host.Outcome State Fault Refusal := instruction1 0x72 zp s

/-- R203: `ADC` in mode ZP_X, opcode 0x75. -/
def execAdcZpX (zp : Byte) (s : State) : Host.Outcome State Fault Refusal := instruction1 0x75 zp s

/-- R203: `ADC` in mode ABS_Y, opcode 0x79. -/
def execAdcAbsY (addr : Operand) (s : State) : Host.Outcome State Fault Refusal := instruction2 0x79 addr s

/-- R203: `ADC` in mode ABS_X, opcode 0x7D. -/
def execAdcAbsX (addr : Operand) (s : State) : Host.Outcome State Fault Refusal := instruction2 0x7D addr s

/-- R204: `STA` in mode ZP_X_IND, opcode 0x81. -/
def execStaZpXInd (zp : Byte) (s : State) : Host.Outcome State Fault Refusal := instruction1 0x81 zp s

/-- R204: `STA` in mode ZP, opcode 0x85. -/
def execStaZp (zp : Byte) (s : State) : Host.Outcome State Fault Refusal := instruction1 0x85 zp s

/-- R204: `STA` in mode ABS, opcode 0x8D. -/
def execStaAbs (addr : Operand) (s : State) : Host.Outcome State Fault Refusal := instruction2 0x8D addr s

/-- R204: `STA` in mode ZP_IND_Y, opcode 0x91. -/
def execStaZpIndY (zp : Byte) (s : State) : Host.Outcome State Fault Refusal := instruction1 0x91 zp s

/-- R204: `STA` in mode ZP_IND, opcode 0x92. -/
def execStaZpInd (zp : Byte) (s : State) : Host.Outcome State Fault Refusal := instruction1 0x92 zp s

/-- R204: `STA` in mode ZP_X, opcode 0x95. -/
def execStaZpX (zp : Byte) (s : State) : Host.Outcome State Fault Refusal := instruction1 0x95 zp s

/-- R204: `STA` in mode ABS_Y, opcode 0x99. -/
def execStaAbsY (addr : Operand) (s : State) : Host.Outcome State Fault Refusal := instruction2 0x99 addr s

/-- R204: `STA` in mode ABS_X, opcode 0x9D. -/
def execStaAbsX (addr : Operand) (s : State) : Host.Outcome State Fault Refusal := instruction2 0x9D addr s

/-- R205: `LDA` in mode ZP_X_IND, opcode 0xA1. -/
def execLdaZpXInd (zp : Byte) (s : State) : Host.Outcome State Fault Refusal := instruction1 0xA1 zp s

/-- R205: `LDA` in mode ZP, opcode 0xA5. -/
def execLdaZp (zp : Byte) (s : State) : Host.Outcome State Fault Refusal := instruction1 0xA5 zp s

/-- R205: `LDA` in mode IMM, opcode 0xA9. -/
def execLdaImm (imm : Byte) (s : State) : Host.Outcome State Fault Refusal := instruction1 0xA9 imm s

/-- R205: `LDA` in mode ABS, opcode 0xAD. -/
def execLdaAbs (addr : Operand) (s : State) : Host.Outcome State Fault Refusal := instruction2 0xAD addr s

/-- R205: `LDA` in mode ZP_IND_Y, opcode 0xB1. -/
def execLdaZpIndY (zp : Byte) (s : State) : Host.Outcome State Fault Refusal := instruction1 0xB1 zp s

/-- R205: `LDA` in mode ZP_IND, opcode 0xB2. -/
def execLdaZpInd (zp : Byte) (s : State) : Host.Outcome State Fault Refusal := instruction1 0xB2 zp s

/-- R205: `LDA` in mode ZP_X, opcode 0xB5. -/
def execLdaZpX (zp : Byte) (s : State) : Host.Outcome State Fault Refusal := instruction1 0xB5 zp s

/-- R205: `LDA` in mode ABS_Y, opcode 0xB9. -/
def execLdaAbsY (addr : Operand) (s : State) : Host.Outcome State Fault Refusal := instruction2 0xB9 addr s

/-- R205: `LDA` in mode ABS_X, opcode 0xBD. -/
def execLdaAbsX (addr : Operand) (s : State) : Host.Outcome State Fault Refusal := instruction2 0xBD addr s

/-- R206: `CMP` in mode ZP_X_IND, opcode 0xC1. -/
def execCmpZpXInd (zp : Byte) (s : State) : Host.Outcome State Fault Refusal := instruction1 0xC1 zp s

/-- R206: `CMP` in mode ZP, opcode 0xC5. -/
def execCmpZp (zp : Byte) (s : State) : Host.Outcome State Fault Refusal := instruction1 0xC5 zp s

/-- R206: `CMP` in mode IMM, opcode 0xC9. -/
def execCmpImm (imm : Byte) (s : State) : Host.Outcome State Fault Refusal := instruction1 0xC9 imm s

/-- R206: `CMP` in mode ABS, opcode 0xCD. -/
def execCmpAbs (addr : Operand) (s : State) : Host.Outcome State Fault Refusal := instruction2 0xCD addr s

/-- R206: `CMP` in mode ZP_IND_Y, opcode 0xD1. -/
def execCmpZpIndY (zp : Byte) (s : State) : Host.Outcome State Fault Refusal := instruction1 0xD1 zp s

/-- R206: `CMP` in mode ZP_IND, opcode 0xD2. -/
def execCmpZpInd (zp : Byte) (s : State) : Host.Outcome State Fault Refusal := instruction1 0xD2 zp s

/-- R206: `CMP` in mode ZP_X, opcode 0xD5. -/
def execCmpZpX (zp : Byte) (s : State) : Host.Outcome State Fault Refusal := instruction1 0xD5 zp s

/-- R206: `CMP` in mode ABS_Y, opcode 0xD9. -/
def execCmpAbsY (addr : Operand) (s : State) : Host.Outcome State Fault Refusal := instruction2 0xD9 addr s

/-- R206: `CMP` in mode ABS_X, opcode 0xDD. -/
def execCmpAbsX (addr : Operand) (s : State) : Host.Outcome State Fault Refusal := instruction2 0xDD addr s

/-- R207: `SBC` in mode ZP_X_IND, opcode 0xE1. -/
def execSbcZpXInd (zp : Byte) (s : State) : Host.Outcome State Fault Refusal := instruction1 0xE1 zp s

/-- R207: `SBC` in mode ZP, opcode 0xE5. -/
def execSbcZp (zp : Byte) (s : State) : Host.Outcome State Fault Refusal := instruction1 0xE5 zp s

/-- R207: `SBC` in mode IMM, opcode 0xE9. -/
def execSbcImm (imm : Byte) (s : State) : Host.Outcome State Fault Refusal := instruction1 0xE9 imm s

/-- R207: `SBC` in mode ABS, opcode 0xED. -/
def execSbcAbs (addr : Operand) (s : State) : Host.Outcome State Fault Refusal := instruction2 0xED addr s

/-- R207: `SBC` in mode ZP_IND_Y, opcode 0xF1. -/
def execSbcZpIndY (zp : Byte) (s : State) : Host.Outcome State Fault Refusal := instruction1 0xF1 zp s

/-- R207: `SBC` in mode ZP_IND, opcode 0xF2. -/
def execSbcZpInd (zp : Byte) (s : State) : Host.Outcome State Fault Refusal := instruction1 0xF2 zp s

/-- R207: `SBC` in mode ZP_X, opcode 0xF5. -/
def execSbcZpX (zp : Byte) (s : State) : Host.Outcome State Fault Refusal := instruction1 0xF5 zp s

/-- R207: `SBC` in mode ABS_Y, opcode 0xF9. -/
def execSbcAbsY (addr : Operand) (s : State) : Host.Outcome State Fault Refusal := instruction2 0xF9 addr s

/-- R207: `SBC` in mode ABS_X, opcode 0xFD. -/
def execSbcAbsX (addr : Operand) (s : State) : Host.Outcome State Fault Refusal := instruction2 0xFD addr s

end Sys2Proof.Machine
end

