-- ==== Sys2Proof/Machine/BitManip.lean ====
section
/-! DEFINITION. The meanings of bit manipulation and bit branches: RMBn, SMBn, BBRn, BBSn (47_bit_manipulation.md, R266 to R297). The effect of an instruction on the block is the decode of its
bytes: it installs its descriptor, folds its operand bytes and is then complete. What the decoded processor would do is
out of scope (R7). -/

namespace Sys2Proof.Machine

/-- R266: `RMB0` in mode ZP, opcode 0x07. -/
def execRmb0 (zp : Byte) (s : State) : Host.Outcome State Fault Refusal := instruction1 0x07 zp s

/-- R267: `RMB1` in mode ZP, opcode 0x17. -/
def execRmb1 (zp : Byte) (s : State) : Host.Outcome State Fault Refusal := instruction1 0x17 zp s

/-- R268: `RMB2` in mode ZP, opcode 0x27. -/
def execRmb2 (zp : Byte) (s : State) : Host.Outcome State Fault Refusal := instruction1 0x27 zp s

/-- R269: `RMB3` in mode ZP, opcode 0x37. -/
def execRmb3 (zp : Byte) (s : State) : Host.Outcome State Fault Refusal := instruction1 0x37 zp s

/-- R270: `RMB4` in mode ZP, opcode 0x47. -/
def execRmb4 (zp : Byte) (s : State) : Host.Outcome State Fault Refusal := instruction1 0x47 zp s

/-- R271: `RMB5` in mode ZP, opcode 0x57. -/
def execRmb5 (zp : Byte) (s : State) : Host.Outcome State Fault Refusal := instruction1 0x57 zp s

/-- R272: `RMB6` in mode ZP, opcode 0x67. -/
def execRmb6 (zp : Byte) (s : State) : Host.Outcome State Fault Refusal := instruction1 0x67 zp s

/-- R273: `RMB7` in mode ZP, opcode 0x77. -/
def execRmb7 (zp : Byte) (s : State) : Host.Outcome State Fault Refusal := instruction1 0x77 zp s

/-- R274: `SMB0` in mode ZP, opcode 0x87. -/
def execSmb0 (zp : Byte) (s : State) : Host.Outcome State Fault Refusal := instruction1 0x87 zp s

/-- R275: `SMB1` in mode ZP, opcode 0x97. -/
def execSmb1 (zp : Byte) (s : State) : Host.Outcome State Fault Refusal := instruction1 0x97 zp s

/-- R276: `SMB2` in mode ZP, opcode 0xA7. -/
def execSmb2 (zp : Byte) (s : State) : Host.Outcome State Fault Refusal := instruction1 0xA7 zp s

/-- R277: `SMB3` in mode ZP, opcode 0xB7. -/
def execSmb3 (zp : Byte) (s : State) : Host.Outcome State Fault Refusal := instruction1 0xB7 zp s

/-- R278: `SMB4` in mode ZP, opcode 0xC7. -/
def execSmb4 (zp : Byte) (s : State) : Host.Outcome State Fault Refusal := instruction1 0xC7 zp s

/-- R279: `SMB5` in mode ZP, opcode 0xD7. -/
def execSmb5 (zp : Byte) (s : State) : Host.Outcome State Fault Refusal := instruction1 0xD7 zp s

/-- R280: `SMB6` in mode ZP, opcode 0xE7. -/
def execSmb6 (zp : Byte) (s : State) : Host.Outcome State Fault Refusal := instruction1 0xE7 zp s

/-- R281: `SMB7` in mode ZP, opcode 0xF7. -/
def execSmb7 (zp : Byte) (s : State) : Host.Outcome State Fault Refusal := instruction1 0xF7 zp s

/-- R282: `BBR0` in mode REL, opcode 0x0F. -/
def execBbr0 (off : Byte) (s : State) : Host.Outcome State Fault Refusal := instruction1 0x0F off s

/-- R283: `BBR1` in mode REL, opcode 0x1F. -/
def execBbr1 (off : Byte) (s : State) : Host.Outcome State Fault Refusal := instruction1 0x1F off s

/-- R284: `BBR2` in mode REL, opcode 0x2F. -/
def execBbr2 (off : Byte) (s : State) : Host.Outcome State Fault Refusal := instruction1 0x2F off s

/-- R285: `BBR3` in mode REL, opcode 0x3F. -/
def execBbr3 (off : Byte) (s : State) : Host.Outcome State Fault Refusal := instruction1 0x3F off s

/-- R286: `BBR4` in mode REL, opcode 0x4F. -/
def execBbr4 (off : Byte) (s : State) : Host.Outcome State Fault Refusal := instruction1 0x4F off s

/-- R287: `BBR5` in mode REL, opcode 0x5F. -/
def execBbr5 (off : Byte) (s : State) : Host.Outcome State Fault Refusal := instruction1 0x5F off s

/-- R288: `BBR6` in mode REL, opcode 0x6F. -/
def execBbr6 (off : Byte) (s : State) : Host.Outcome State Fault Refusal := instruction1 0x6F off s

/-- R289: `BBR7` in mode REL, opcode 0x7F. -/
def execBbr7 (off : Byte) (s : State) : Host.Outcome State Fault Refusal := instruction1 0x7F off s

/-- R290: `BBS0` in mode REL, opcode 0x8F. -/
def execBbs0 (off : Byte) (s : State) : Host.Outcome State Fault Refusal := instruction1 0x8F off s

/-- R291: `BBS1` in mode REL, opcode 0x9F. -/
def execBbs1 (off : Byte) (s : State) : Host.Outcome State Fault Refusal := instruction1 0x9F off s

/-- R292: `BBS2` in mode REL, opcode 0xAF. -/
def execBbs2 (off : Byte) (s : State) : Host.Outcome State Fault Refusal := instruction1 0xAF off s

/-- R293: `BBS3` in mode REL, opcode 0xBF. -/
def execBbs3 (off : Byte) (s : State) : Host.Outcome State Fault Refusal := instruction1 0xBF off s

/-- R294: `BBS4` in mode REL, opcode 0xCF. -/
def execBbs4 (off : Byte) (s : State) : Host.Outcome State Fault Refusal := instruction1 0xCF off s

/-- R295: `BBS5` in mode REL, opcode 0xDF. -/
def execBbs5 (off : Byte) (s : State) : Host.Outcome State Fault Refusal := instruction1 0xDF off s

/-- R296: `BBS6` in mode REL, opcode 0xEF. -/
def execBbs6 (off : Byte) (s : State) : Host.Outcome State Fault Refusal := instruction1 0xEF off s

/-- R297: `BBS7` in mode REL, opcode 0xFF. -/
def execBbs7 (off : Byte) (s : State) : Host.Outcome State Fault Refusal := instruction1 0xFF off s

end Sys2Proof.Machine
end

