-- ==== Sys2Proof/Machine/Control.lean ====
section
/-! DEFINITION. The meanings of control transfer: the branches, BRA, JMP, JSR, BRK, RTI, RTS (45_control.md, R224 to R237). The effect of an instruction on the block is the decode of its
bytes: it installs its descriptor, folds its operand bytes and is then complete. What the decoded processor would do is
out of scope (R7). -/

namespace Sys2Proof.Machine

/-- R224: `BPL` in mode REL, opcode 0x10. -/
def execBpl (off : Byte) (s : State) : Host.Outcome State Fault Refusal := instruction1 0x10 off s

/-- R225: `BMI` in mode REL, opcode 0x30. -/
def execBmi (off : Byte) (s : State) : Host.Outcome State Fault Refusal := instruction1 0x30 off s

/-- R226: `BVC` in mode REL, opcode 0x50. -/
def execBvc (off : Byte) (s : State) : Host.Outcome State Fault Refusal := instruction1 0x50 off s

/-- R227: `BVS` in mode REL, opcode 0x70. -/
def execBvs (off : Byte) (s : State) : Host.Outcome State Fault Refusal := instruction1 0x70 off s

/-- R228: `BCC` in mode REL, opcode 0x90. -/
def execBcc (off : Byte) (s : State) : Host.Outcome State Fault Refusal := instruction1 0x90 off s

/-- R229: `BCS` in mode REL, opcode 0xB0. -/
def execBcs (off : Byte) (s : State) : Host.Outcome State Fault Refusal := instruction1 0xB0 off s

/-- R230: `BNE` in mode REL, opcode 0xD0. -/
def execBne (off : Byte) (s : State) : Host.Outcome State Fault Refusal := instruction1 0xD0 off s

/-- R231: `BEQ` in mode REL, opcode 0xF0. -/
def execBeq (off : Byte) (s : State) : Host.Outcome State Fault Refusal := instruction1 0xF0 off s

/-- R232: `BRA` in mode REL, opcode 0x80. -/
def execBra (off : Byte) (s : State) : Host.Outcome State Fault Refusal := instruction1 0x80 off s

/-- R233: `JMP` in mode ABS, opcode 0x4C. -/
def execJmpAbs (addr : Operand) (s : State) : Host.Outcome State Fault Refusal := instruction2 0x4C addr s

/-- R233: `JMP` in mode ABS_IND, opcode 0x6C. -/
def execJmpAbsInd (addr : Operand) (s : State) : Host.Outcome State Fault Refusal := instruction2 0x6C addr s

/-- R233: `JMP` in mode ABS_X_IND, opcode 0x7C. -/
def execJmpAbsXInd (addr : Operand) (s : State) : Host.Outcome State Fault Refusal := instruction2 0x7C addr s

/-- R234: `JSR` in mode ABS, opcode 0x20. -/
def execJsr (addr : Operand) (s : State) : Host.Outcome State Fault Refusal := instruction2 0x20 addr s

/-- R235: `BRK` in mode STK, opcode 0x00. -/
def execBrk (s : State) : Host.Outcome State Fault Refusal := instruction0 0x00 s

/-- R236: `RTI` in mode STK, opcode 0x40. -/
def execRti (s : State) : Host.Outcome State Fault Refusal := instruction0 0x40 s

/-- R237: `RTS` in mode STK, opcode 0x60. -/
def execRts (s : State) : Host.Outcome State Fault Refusal := instruction0 0x60 s

end Sys2Proof.Machine
end

