-- ==== Sys2Proof/Machine/ImpliedStack.lean ====
section
/-! DEFINITION. The meanings of implied and stack instructions: flags, index and transfer operations, NOP, WAI, STP, pushes and pulls (46_implied_stack.md, R238 to R265). The effect of an instruction on the block is the decode of its
bytes: it installs its descriptor, folds its operand bytes and is then complete. What the decoded processor would do is
out of scope (R7). -/

namespace Sys2Proof.Machine

/-- R238: `CLC` in mode IMP, opcode 0x18. -/
def execClc (s : State) : Host.Outcome State Fault Refusal := instruction0 0x18 s

/-- R239: `SEC` in mode IMP, opcode 0x38. -/
def execSec (s : State) : Host.Outcome State Fault Refusal := instruction0 0x38 s

/-- R240: `CLI` in mode IMP, opcode 0x58. -/
def execCli (s : State) : Host.Outcome State Fault Refusal := instruction0 0x58 s

/-- R241: `SEI` in mode IMP, opcode 0x78. -/
def execSei (s : State) : Host.Outcome State Fault Refusal := instruction0 0x78 s

/-- R242: `CLV` in mode IMP, opcode 0xB8. -/
def execClv (s : State) : Host.Outcome State Fault Refusal := instruction0 0xB8 s

/-- R243: `CLD` in mode IMP, opcode 0xD8. -/
def execCld (s : State) : Host.Outcome State Fault Refusal := instruction0 0xD8 s

/-- R244: `SED` in mode IMP, opcode 0xF8. -/
def execSed (s : State) : Host.Outcome State Fault Refusal := instruction0 0xF8 s

/-- R245: `DEX` in mode IMP, opcode 0xCA. -/
def execDex (s : State) : Host.Outcome State Fault Refusal := instruction0 0xCA s

/-- R246: `DEY` in mode IMP, opcode 0x88. -/
def execDey (s : State) : Host.Outcome State Fault Refusal := instruction0 0x88 s

/-- R247: `INX` in mode IMP, opcode 0xE8. -/
def execInx (s : State) : Host.Outcome State Fault Refusal := instruction0 0xE8 s

/-- R248: `INY` in mode IMP, opcode 0xC8. -/
def execIny (s : State) : Host.Outcome State Fault Refusal := instruction0 0xC8 s

/-- R249: `TAX` in mode IMP, opcode 0xAA. -/
def execTax (s : State) : Host.Outcome State Fault Refusal := instruction0 0xAA s

/-- R250: `TAY` in mode IMP, opcode 0xA8. -/
def execTay (s : State) : Host.Outcome State Fault Refusal := instruction0 0xA8 s

/-- R251: `TXA` in mode IMP, opcode 0x8A. -/
def execTxa (s : State) : Host.Outcome State Fault Refusal := instruction0 0x8A s

/-- R252: `TYA` in mode IMP, opcode 0x98. -/
def execTya (s : State) : Host.Outcome State Fault Refusal := instruction0 0x98 s

/-- R253: `TSX` in mode IMP, opcode 0xBA. -/
def execTsx (s : State) : Host.Outcome State Fault Refusal := instruction0 0xBA s

/-- R254: `TXS` in mode IMP, opcode 0x9A. -/
def execTxs (s : State) : Host.Outcome State Fault Refusal := instruction0 0x9A s

/-- R255: `NOP` in mode IMP, opcode 0xEA. -/
def execNop (s : State) : Host.Outcome State Fault Refusal := instruction0 0xEA s

/-- R256: `WAI` in mode IMP, opcode 0xCB. -/
def execWai (s : State) : Host.Outcome State Fault Refusal := instruction0 0xCB s

/-- R257: `STP` in mode IMP, opcode 0xDB. -/
def execStp (s : State) : Host.Outcome State Fault Refusal := instruction0 0xDB s

/-- R258: `PHA` in mode STK, opcode 0x48. -/
def execPha (s : State) : Host.Outcome State Fault Refusal := instruction0 0x48 s

/-- R259: `PHP` in mode STK, opcode 0x08. -/
def execPhp (s : State) : Host.Outcome State Fault Refusal := instruction0 0x08 s

/-- R260: `PLA` in mode STK, opcode 0x68. -/
def execPla (s : State) : Host.Outcome State Fault Refusal := instruction0 0x68 s

/-- R261: `PLP` in mode STK, opcode 0x28. -/
def execPlp (s : State) : Host.Outcome State Fault Refusal := instruction0 0x28 s

/-- R262: `PHX` in mode STK, opcode 0xDA. -/
def execPhx (s : State) : Host.Outcome State Fault Refusal := instruction0 0xDA s

/-- R263: `PHY` in mode STK, opcode 0x5A. -/
def execPhy (s : State) : Host.Outcome State Fault Refusal := instruction0 0x5A s

/-- R264: `PLX` in mode STK, opcode 0xFA. -/
def execPlx (s : State) : Host.Outcome State Fault Refusal := instruction0 0xFA s

/-- R265: `PLY` in mode STK, opcode 0x7A. -/
def execPly (s : State) : Host.Outcome State Fault Refusal := instruction0 0x7A s

end Sys2Proof.Machine
end

