-- ==== Sys2Proof/Machine/IndexBit.lean ====
section
/-! DEFINITION. The meanings of index-register loads, stores and compares, and bit tests: BIT, TSB, TRB, STZ, LDX, LDY, STX, STY, CPX, CPY (44_index_bit.md, R214 to R223). The effect of an instruction on the block is the decode of its
bytes: it installs its descriptor, folds its operand bytes and is then complete. What the decoded processor would do is
out of scope (R7). -/

namespace Sys2Proof.Machine

/-- R214: `BIT` in mode ZP, opcode 0x24. -/
def execBitZp (zp : Byte) (s : State) : Host.Outcome State Fault Refusal := instruction1 0x24 zp s

/-- R214: `BIT` in mode ABS, opcode 0x2C. -/
def execBitAbs (addr : Operand) (s : State) : Host.Outcome State Fault Refusal := instruction2 0x2C addr s

/-- R214: `BIT` in mode ZP_X, opcode 0x34. -/
def execBitZpX (zp : Byte) (s : State) : Host.Outcome State Fault Refusal := instruction1 0x34 zp s

/-- R214: `BIT` in mode ABS_X, opcode 0x3C. -/
def execBitAbsX (addr : Operand) (s : State) : Host.Outcome State Fault Refusal := instruction2 0x3C addr s

/-- R214: `BIT` in mode IMM, opcode 0x89. -/
def execBitImm (imm : Byte) (s : State) : Host.Outcome State Fault Refusal := instruction1 0x89 imm s

/-- R215: `TSB` in mode ZP, opcode 0x04. -/
def execTsbZp (zp : Byte) (s : State) : Host.Outcome State Fault Refusal := instruction1 0x04 zp s

/-- R215: `TSB` in mode ABS, opcode 0x0C. -/
def execTsbAbs (addr : Operand) (s : State) : Host.Outcome State Fault Refusal := instruction2 0x0C addr s

/-- R216: `TRB` in mode ZP, opcode 0x14. -/
def execTrbZp (zp : Byte) (s : State) : Host.Outcome State Fault Refusal := instruction1 0x14 zp s

/-- R216: `TRB` in mode ABS, opcode 0x1C. -/
def execTrbAbs (addr : Operand) (s : State) : Host.Outcome State Fault Refusal := instruction2 0x1C addr s

/-- R217: `STZ` in mode ZP, opcode 0x64. -/
def execStzZp (zp : Byte) (s : State) : Host.Outcome State Fault Refusal := instruction1 0x64 zp s

/-- R217: `STZ` in mode ZP_X, opcode 0x74. -/
def execStzZpX (zp : Byte) (s : State) : Host.Outcome State Fault Refusal := instruction1 0x74 zp s

/-- R217: `STZ` in mode ABS, opcode 0x9C. -/
def execStzAbs (addr : Operand) (s : State) : Host.Outcome State Fault Refusal := instruction2 0x9C addr s

/-- R217: `STZ` in mode ABS_X, opcode 0x9E. -/
def execStzAbsX (addr : Operand) (s : State) : Host.Outcome State Fault Refusal := instruction2 0x9E addr s

/-- R218: `LDX` in mode IMM, opcode 0xA2. -/
def execLdxImm (imm : Byte) (s : State) : Host.Outcome State Fault Refusal := instruction1 0xA2 imm s

/-- R218: `LDX` in mode ZP, opcode 0xA6. -/
def execLdxZp (zp : Byte) (s : State) : Host.Outcome State Fault Refusal := instruction1 0xA6 zp s

/-- R218: `LDX` in mode ABS, opcode 0xAE. -/
def execLdxAbs (addr : Operand) (s : State) : Host.Outcome State Fault Refusal := instruction2 0xAE addr s

/-- R218: `LDX` in mode ZP_Y, opcode 0xB6. -/
def execLdxZpY (zp : Byte) (s : State) : Host.Outcome State Fault Refusal := instruction1 0xB6 zp s

/-- R218: `LDX` in mode ABS_Y, opcode 0xBE. -/
def execLdxAbsY (addr : Operand) (s : State) : Host.Outcome State Fault Refusal := instruction2 0xBE addr s

/-- R219: `LDY` in mode IMM, opcode 0xA0. -/
def execLdyImm (imm : Byte) (s : State) : Host.Outcome State Fault Refusal := instruction1 0xA0 imm s

/-- R219: `LDY` in mode ZP, opcode 0xA4. -/
def execLdyZp (zp : Byte) (s : State) : Host.Outcome State Fault Refusal := instruction1 0xA4 zp s

/-- R219: `LDY` in mode ABS, opcode 0xAC. -/
def execLdyAbs (addr : Operand) (s : State) : Host.Outcome State Fault Refusal := instruction2 0xAC addr s

/-- R219: `LDY` in mode ZP_X, opcode 0xB4. -/
def execLdyZpX (zp : Byte) (s : State) : Host.Outcome State Fault Refusal := instruction1 0xB4 zp s

/-- R219: `LDY` in mode ABS_X, opcode 0xBC. -/
def execLdyAbsX (addr : Operand) (s : State) : Host.Outcome State Fault Refusal := instruction2 0xBC addr s

/-- R220: `STX` in mode ZP, opcode 0x86. -/
def execStxZp (zp : Byte) (s : State) : Host.Outcome State Fault Refusal := instruction1 0x86 zp s

/-- R220: `STX` in mode ABS, opcode 0x8E. -/
def execStxAbs (addr : Operand) (s : State) : Host.Outcome State Fault Refusal := instruction2 0x8E addr s

/-- R220: `STX` in mode ZP_Y, opcode 0x96. -/
def execStxZpY (zp : Byte) (s : State) : Host.Outcome State Fault Refusal := instruction1 0x96 zp s

/-- R221: `STY` in mode ZP, opcode 0x84. -/
def execStyZp (zp : Byte) (s : State) : Host.Outcome State Fault Refusal := instruction1 0x84 zp s

/-- R221: `STY` in mode ABS, opcode 0x8C. -/
def execStyAbs (addr : Operand) (s : State) : Host.Outcome State Fault Refusal := instruction2 0x8C addr s

/-- R221: `STY` in mode ZP_X, opcode 0x94. -/
def execStyZpX (zp : Byte) (s : State) : Host.Outcome State Fault Refusal := instruction1 0x94 zp s

/-- R222: `CPX` in mode IMM, opcode 0xE0. -/
def execCpxImm (imm : Byte) (s : State) : Host.Outcome State Fault Refusal := instruction1 0xE0 imm s

/-- R222: `CPX` in mode ZP, opcode 0xE4. -/
def execCpxZp (zp : Byte) (s : State) : Host.Outcome State Fault Refusal := instruction1 0xE4 zp s

/-- R222: `CPX` in mode ABS, opcode 0xEC. -/
def execCpxAbs (addr : Operand) (s : State) : Host.Outcome State Fault Refusal := instruction2 0xEC addr s

/-- R223: `CPY` in mode IMM, opcode 0xC0. -/
def execCpyImm (imm : Byte) (s : State) : Host.Outcome State Fault Refusal := instruction1 0xC0 imm s

/-- R223: `CPY` in mode ZP, opcode 0xC4. -/
def execCpyZp (zp : Byte) (s : State) : Host.Outcome State Fault Refusal := instruction1 0xC4 zp s

/-- R223: `CPY` in mode ABS, opcode 0xCC. -/
def execCpyAbs (addr : Operand) (s : State) : Host.Outcome State Fault Refusal := instruction2 0xCC addr s

end Sys2Proof.Machine
end

