-- ==== Sys2Proof/Machine/ShiftIncDec.lean ====
section
/-! DEFINITION. The meanings of shifts, rotates, increment and decrement: ASL, ROL, LSR, ROR, INC, DEC (43_shift_incdec.md, R208 to R213). The effect of an instruction on the block is the decode of its
bytes: it installs its descriptor, folds its operand bytes and is then complete. What the decoded processor would do is
out of scope (R7). -/

namespace Sys2Proof.Machine

/-- R208: `ASL` in mode ZP, opcode 0x06. -/
def execAslZp (zp : Byte) (s : State) : Host.Outcome State Fault Refusal := instruction1 0x06 zp s

/-- R208: `ASL` in mode ACC, opcode 0x0A. -/
def execAslAcc (s : State) : Host.Outcome State Fault Refusal := instruction0 0x0A s

/-- R208: `ASL` in mode ABS, opcode 0x0E. -/
def execAslAbs (addr : Operand) (s : State) : Host.Outcome State Fault Refusal := instruction2 0x0E addr s

/-- R208: `ASL` in mode ZP_X, opcode 0x16. -/
def execAslZpX (zp : Byte) (s : State) : Host.Outcome State Fault Refusal := instruction1 0x16 zp s

/-- R208: `ASL` in mode ABS_X, opcode 0x1E. -/
def execAslAbsX (addr : Operand) (s : State) : Host.Outcome State Fault Refusal := instruction2 0x1E addr s

/-- R209: `ROL` in mode ZP, opcode 0x26. -/
def execRolZp (zp : Byte) (s : State) : Host.Outcome State Fault Refusal := instruction1 0x26 zp s

/-- R209: `ROL` in mode ACC, opcode 0x2A. -/
def execRolAcc (s : State) : Host.Outcome State Fault Refusal := instruction0 0x2A s

/-- R209: `ROL` in mode ABS, opcode 0x2E. -/
def execRolAbs (addr : Operand) (s : State) : Host.Outcome State Fault Refusal := instruction2 0x2E addr s

/-- R209: `ROL` in mode ZP_X, opcode 0x36. -/
def execRolZpX (zp : Byte) (s : State) : Host.Outcome State Fault Refusal := instruction1 0x36 zp s

/-- R209: `ROL` in mode ABS_X, opcode 0x3E. -/
def execRolAbsX (addr : Operand) (s : State) : Host.Outcome State Fault Refusal := instruction2 0x3E addr s

/-- R210: `LSR` in mode ZP, opcode 0x46. -/
def execLsrZp (zp : Byte) (s : State) : Host.Outcome State Fault Refusal := instruction1 0x46 zp s

/-- R210: `LSR` in mode ACC, opcode 0x4A. -/
def execLsrAcc (s : State) : Host.Outcome State Fault Refusal := instruction0 0x4A s

/-- R210: `LSR` in mode ABS, opcode 0x4E. -/
def execLsrAbs (addr : Operand) (s : State) : Host.Outcome State Fault Refusal := instruction2 0x4E addr s

/-- R210: `LSR` in mode ZP_X, opcode 0x56. -/
def execLsrZpX (zp : Byte) (s : State) : Host.Outcome State Fault Refusal := instruction1 0x56 zp s

/-- R210: `LSR` in mode ABS_X, opcode 0x5E. -/
def execLsrAbsX (addr : Operand) (s : State) : Host.Outcome State Fault Refusal := instruction2 0x5E addr s

/-- R211: `ROR` in mode ZP, opcode 0x66. -/
def execRorZp (zp : Byte) (s : State) : Host.Outcome State Fault Refusal := instruction1 0x66 zp s

/-- R211: `ROR` in mode ACC, opcode 0x6A. -/
def execRorAcc (s : State) : Host.Outcome State Fault Refusal := instruction0 0x6A s

/-- R211: `ROR` in mode ABS, opcode 0x6E. -/
def execRorAbs (addr : Operand) (s : State) : Host.Outcome State Fault Refusal := instruction2 0x6E addr s

/-- R211: `ROR` in mode ZP_X, opcode 0x76. -/
def execRorZpX (zp : Byte) (s : State) : Host.Outcome State Fault Refusal := instruction1 0x76 zp s

/-- R211: `ROR` in mode ABS_X, opcode 0x7E. -/
def execRorAbsX (addr : Operand) (s : State) : Host.Outcome State Fault Refusal := instruction2 0x7E addr s

/-- R212: `INC` in mode ACC, opcode 0x1A. -/
def execIncAcc (s : State) : Host.Outcome State Fault Refusal := instruction0 0x1A s

/-- R212: `INC` in mode ZP, opcode 0xE6. -/
def execIncZp (zp : Byte) (s : State) : Host.Outcome State Fault Refusal := instruction1 0xE6 zp s

/-- R212: `INC` in mode ABS, opcode 0xEE. -/
def execIncAbs (addr : Operand) (s : State) : Host.Outcome State Fault Refusal := instruction2 0xEE addr s

/-- R212: `INC` in mode ZP_X, opcode 0xF6. -/
def execIncZpX (zp : Byte) (s : State) : Host.Outcome State Fault Refusal := instruction1 0xF6 zp s

/-- R212: `INC` in mode ABS_X, opcode 0xFE. -/
def execIncAbsX (addr : Operand) (s : State) : Host.Outcome State Fault Refusal := instruction2 0xFE addr s

/-- R213: `DEC` in mode ACC, opcode 0x3A. -/
def execDecAcc (s : State) : Host.Outcome State Fault Refusal := instruction0 0x3A s

/-- R213: `DEC` in mode ZP, opcode 0xC6. -/
def execDecZp (zp : Byte) (s : State) : Host.Outcome State Fault Refusal := instruction1 0xC6 zp s

/-- R213: `DEC` in mode ABS, opcode 0xCE. -/
def execDecAbs (addr : Operand) (s : State) : Host.Outcome State Fault Refusal := instruction2 0xCE addr s

/-- R213: `DEC` in mode ZP_X, opcode 0xD6. -/
def execDecZpX (zp : Byte) (s : State) : Host.Outcome State Fault Refusal := instruction1 0xD6 zp s

/-- R213: `DEC` in mode ABS_X, opcode 0xDE. -/
def execDecAbsX (addr : Operand) (s : State) : Host.Outcome State Fault Refusal := instruction2 0xDE addr s

end Sys2Proof.Machine
end

