-- ==== Sys2Proof/Machine/Dispatch.lean ====
section
/-! DEFINITION. One arm per instruction: the meaning of each constructor of `Instr`. -/

namespace Sys2Proof.Machine

def exec (i : Instr) (s : State) : Host.Outcome State Fault Refusal :=
  match i with
  | .brk => Sys2Proof.Machine.execBrk s
  | .oraZpXInd zp => Sys2Proof.Machine.execOraZpXInd zp s
  | .tsbZp zp => Sys2Proof.Machine.execTsbZp zp s
  | .oraZp zp => Sys2Proof.Machine.execOraZp zp s
  | .aslZp zp => Sys2Proof.Machine.execAslZp zp s
  | .rmb0 zp => Sys2Proof.Machine.execRmb0 zp s
  | .php => Sys2Proof.Machine.execPhp s
  | .oraImm imm => Sys2Proof.Machine.execOraImm imm s
  | .aslAcc => Sys2Proof.Machine.execAslAcc s
  | .tsbAbs addr => Sys2Proof.Machine.execTsbAbs addr s
  | .oraAbs addr => Sys2Proof.Machine.execOraAbs addr s
  | .aslAbs addr => Sys2Proof.Machine.execAslAbs addr s
  | .bbr0 off => Sys2Proof.Machine.execBbr0 off s
  | .bpl off => Sys2Proof.Machine.execBpl off s
  | .oraZpIndY zp => Sys2Proof.Machine.execOraZpIndY zp s
  | .oraZpInd zp => Sys2Proof.Machine.execOraZpInd zp s
  | .trbZp zp => Sys2Proof.Machine.execTrbZp zp s
  | .oraZpX zp => Sys2Proof.Machine.execOraZpX zp s
  | .aslZpX zp => Sys2Proof.Machine.execAslZpX zp s
  | .rmb1 zp => Sys2Proof.Machine.execRmb1 zp s
  | .clc => Sys2Proof.Machine.execClc s
  | .oraAbsY addr => Sys2Proof.Machine.execOraAbsY addr s
  | .incAcc => Sys2Proof.Machine.execIncAcc s
  | .trbAbs addr => Sys2Proof.Machine.execTrbAbs addr s
  | .oraAbsX addr => Sys2Proof.Machine.execOraAbsX addr s
  | .aslAbsX addr => Sys2Proof.Machine.execAslAbsX addr s
  | .bbr1 off => Sys2Proof.Machine.execBbr1 off s
  | .jsr addr => Sys2Proof.Machine.execJsr addr s
  | .andZpXInd zp => Sys2Proof.Machine.execAndZpXInd zp s
  | .bitZp zp => Sys2Proof.Machine.execBitZp zp s
  | .andZp zp => Sys2Proof.Machine.execAndZp zp s
  | .rolZp zp => Sys2Proof.Machine.execRolZp zp s
  | .rmb2 zp => Sys2Proof.Machine.execRmb2 zp s
  | .plp => Sys2Proof.Machine.execPlp s
  | .andImm imm => Sys2Proof.Machine.execAndImm imm s
  | .rolAcc => Sys2Proof.Machine.execRolAcc s
  | .bitAbs addr => Sys2Proof.Machine.execBitAbs addr s
  | .andAbs addr => Sys2Proof.Machine.execAndAbs addr s
  | .rolAbs addr => Sys2Proof.Machine.execRolAbs addr s
  | .bbr2 off => Sys2Proof.Machine.execBbr2 off s
  | .bmi off => Sys2Proof.Machine.execBmi off s
  | .andZpIndY zp => Sys2Proof.Machine.execAndZpIndY zp s
  | .andZpInd zp => Sys2Proof.Machine.execAndZpInd zp s
  | .bitZpX zp => Sys2Proof.Machine.execBitZpX zp s
  | .andZpX zp => Sys2Proof.Machine.execAndZpX zp s
  | .rolZpX zp => Sys2Proof.Machine.execRolZpX zp s
  | .rmb3 zp => Sys2Proof.Machine.execRmb3 zp s
  | .sec => Sys2Proof.Machine.execSec s
  | .andAbsY addr => Sys2Proof.Machine.execAndAbsY addr s
  | .decAcc => Sys2Proof.Machine.execDecAcc s
  | .bitAbsX addr => Sys2Proof.Machine.execBitAbsX addr s
  | .andAbsX addr => Sys2Proof.Machine.execAndAbsX addr s
  | .rolAbsX addr => Sys2Proof.Machine.execRolAbsX addr s
  | .bbr3 off => Sys2Proof.Machine.execBbr3 off s
  | .rti => Sys2Proof.Machine.execRti s
  | .eorZpXInd zp => Sys2Proof.Machine.execEorZpXInd zp s
  | .eorZp zp => Sys2Proof.Machine.execEorZp zp s
  | .lsrZp zp => Sys2Proof.Machine.execLsrZp zp s
  | .rmb4 zp => Sys2Proof.Machine.execRmb4 zp s
  | .pha => Sys2Proof.Machine.execPha s
  | .eorImm imm => Sys2Proof.Machine.execEorImm imm s
  | .lsrAcc => Sys2Proof.Machine.execLsrAcc s
  | .jmpAbs addr => Sys2Proof.Machine.execJmpAbs addr s
  | .eorAbs addr => Sys2Proof.Machine.execEorAbs addr s
  | .lsrAbs addr => Sys2Proof.Machine.execLsrAbs addr s
  | .bbr4 off => Sys2Proof.Machine.execBbr4 off s
  | .bvc off => Sys2Proof.Machine.execBvc off s
  | .eorZpIndY zp => Sys2Proof.Machine.execEorZpIndY zp s
  | .eorZpInd zp => Sys2Proof.Machine.execEorZpInd zp s
  | .eorZpX zp => Sys2Proof.Machine.execEorZpX zp s
  | .lsrZpX zp => Sys2Proof.Machine.execLsrZpX zp s
  | .rmb5 zp => Sys2Proof.Machine.execRmb5 zp s
  | .cli => Sys2Proof.Machine.execCli s
  | .eorAbsY addr => Sys2Proof.Machine.execEorAbsY addr s
  | .phy => Sys2Proof.Machine.execPhy s
  | .eorAbsX addr => Sys2Proof.Machine.execEorAbsX addr s
  | .lsrAbsX addr => Sys2Proof.Machine.execLsrAbsX addr s
  | .bbr5 off => Sys2Proof.Machine.execBbr5 off s
  | .rts => Sys2Proof.Machine.execRts s
  | .adcZpXInd zp => Sys2Proof.Machine.execAdcZpXInd zp s
  | .stzZp zp => Sys2Proof.Machine.execStzZp zp s
  | .adcZp zp => Sys2Proof.Machine.execAdcZp zp s
  | .rorZp zp => Sys2Proof.Machine.execRorZp zp s
  | .rmb6 zp => Sys2Proof.Machine.execRmb6 zp s
  | .pla => Sys2Proof.Machine.execPla s
  | .adcImm imm => Sys2Proof.Machine.execAdcImm imm s
  | .rorAcc => Sys2Proof.Machine.execRorAcc s
  | .jmpAbsInd addr => Sys2Proof.Machine.execJmpAbsInd addr s
  | .adcAbs addr => Sys2Proof.Machine.execAdcAbs addr s
  | .rorAbs addr => Sys2Proof.Machine.execRorAbs addr s
  | .bbr6 off => Sys2Proof.Machine.execBbr6 off s
  | .bvs off => Sys2Proof.Machine.execBvs off s
  | .adcZpIndY zp => Sys2Proof.Machine.execAdcZpIndY zp s
  | .adcZpInd zp => Sys2Proof.Machine.execAdcZpInd zp s
  | .stzZpX zp => Sys2Proof.Machine.execStzZpX zp s
  | .adcZpX zp => Sys2Proof.Machine.execAdcZpX zp s
  | .rorZpX zp => Sys2Proof.Machine.execRorZpX zp s
  | .rmb7 zp => Sys2Proof.Machine.execRmb7 zp s
  | .sei => Sys2Proof.Machine.execSei s
  | .adcAbsY addr => Sys2Proof.Machine.execAdcAbsY addr s
  | .ply => Sys2Proof.Machine.execPly s
  | .jmpAbsXInd addr => Sys2Proof.Machine.execJmpAbsXInd addr s
  | .adcAbsX addr => Sys2Proof.Machine.execAdcAbsX addr s
  | .rorAbsX addr => Sys2Proof.Machine.execRorAbsX addr s
  | .bbr7 off => Sys2Proof.Machine.execBbr7 off s
  | .bra off => Sys2Proof.Machine.execBra off s
  | .staZpXInd zp => Sys2Proof.Machine.execStaZpXInd zp s
  | .styZp zp => Sys2Proof.Machine.execStyZp zp s
  | .staZp zp => Sys2Proof.Machine.execStaZp zp s
  | .stxZp zp => Sys2Proof.Machine.execStxZp zp s
  | .smb0 zp => Sys2Proof.Machine.execSmb0 zp s
  | .dey => Sys2Proof.Machine.execDey s
  | .bitImm imm => Sys2Proof.Machine.execBitImm imm s
  | .txa => Sys2Proof.Machine.execTxa s
  | .styAbs addr => Sys2Proof.Machine.execStyAbs addr s
  | .staAbs addr => Sys2Proof.Machine.execStaAbs addr s
  | .stxAbs addr => Sys2Proof.Machine.execStxAbs addr s
  | .bbs0 off => Sys2Proof.Machine.execBbs0 off s
  | .bcc off => Sys2Proof.Machine.execBcc off s
  | .staZpIndY zp => Sys2Proof.Machine.execStaZpIndY zp s
  | .staZpInd zp => Sys2Proof.Machine.execStaZpInd zp s
  | .styZpX zp => Sys2Proof.Machine.execStyZpX zp s
  | .staZpX zp => Sys2Proof.Machine.execStaZpX zp s
  | .stxZpY zp => Sys2Proof.Machine.execStxZpY zp s
  | .smb1 zp => Sys2Proof.Machine.execSmb1 zp s
  | .tya => Sys2Proof.Machine.execTya s
  | .staAbsY addr => Sys2Proof.Machine.execStaAbsY addr s
  | .txs => Sys2Proof.Machine.execTxs s
  | .stzAbs addr => Sys2Proof.Machine.execStzAbs addr s
  | .staAbsX addr => Sys2Proof.Machine.execStaAbsX addr s
  | .stzAbsX addr => Sys2Proof.Machine.execStzAbsX addr s
  | .bbs1 off => Sys2Proof.Machine.execBbs1 off s
  | .ldyImm imm => Sys2Proof.Machine.execLdyImm imm s
  | .ldaZpXInd zp => Sys2Proof.Machine.execLdaZpXInd zp s
  | .ldxImm imm => Sys2Proof.Machine.execLdxImm imm s
  | .ldyZp zp => Sys2Proof.Machine.execLdyZp zp s
  | .ldaZp zp => Sys2Proof.Machine.execLdaZp zp s
  | .ldxZp zp => Sys2Proof.Machine.execLdxZp zp s
  | .smb2 zp => Sys2Proof.Machine.execSmb2 zp s
  | .tay => Sys2Proof.Machine.execTay s
  | .ldaImm imm => Sys2Proof.Machine.execLdaImm imm s
  | .tax => Sys2Proof.Machine.execTax s
  | .ldyAbs addr => Sys2Proof.Machine.execLdyAbs addr s
  | .ldaAbs addr => Sys2Proof.Machine.execLdaAbs addr s
  | .ldxAbs addr => Sys2Proof.Machine.execLdxAbs addr s
  | .bbs2 off => Sys2Proof.Machine.execBbs2 off s
  | .bcs off => Sys2Proof.Machine.execBcs off s
  | .ldaZpIndY zp => Sys2Proof.Machine.execLdaZpIndY zp s
  | .ldaZpInd zp => Sys2Proof.Machine.execLdaZpInd zp s
  | .ldyZpX zp => Sys2Proof.Machine.execLdyZpX zp s
  | .ldaZpX zp => Sys2Proof.Machine.execLdaZpX zp s
  | .ldxZpY zp => Sys2Proof.Machine.execLdxZpY zp s
  | .smb3 zp => Sys2Proof.Machine.execSmb3 zp s
  | .clv => Sys2Proof.Machine.execClv s
  | .ldaAbsY addr => Sys2Proof.Machine.execLdaAbsY addr s
  | .tsx => Sys2Proof.Machine.execTsx s
  | .ldyAbsX addr => Sys2Proof.Machine.execLdyAbsX addr s
  | .ldaAbsX addr => Sys2Proof.Machine.execLdaAbsX addr s
  | .ldxAbsY addr => Sys2Proof.Machine.execLdxAbsY addr s
  | .bbs3 off => Sys2Proof.Machine.execBbs3 off s
  | .cpyImm imm => Sys2Proof.Machine.execCpyImm imm s
  | .cmpZpXInd zp => Sys2Proof.Machine.execCmpZpXInd zp s
  | .cpyZp zp => Sys2Proof.Machine.execCpyZp zp s
  | .cmpZp zp => Sys2Proof.Machine.execCmpZp zp s
  | .decZp zp => Sys2Proof.Machine.execDecZp zp s
  | .smb4 zp => Sys2Proof.Machine.execSmb4 zp s
  | .iny => Sys2Proof.Machine.execIny s
  | .cmpImm imm => Sys2Proof.Machine.execCmpImm imm s
  | .dex => Sys2Proof.Machine.execDex s
  | .wai => Sys2Proof.Machine.execWai s
  | .cpyAbs addr => Sys2Proof.Machine.execCpyAbs addr s
  | .cmpAbs addr => Sys2Proof.Machine.execCmpAbs addr s
  | .decAbs addr => Sys2Proof.Machine.execDecAbs addr s
  | .bbs4 off => Sys2Proof.Machine.execBbs4 off s
  | .bne off => Sys2Proof.Machine.execBne off s
  | .cmpZpIndY zp => Sys2Proof.Machine.execCmpZpIndY zp s
  | .cmpZpInd zp => Sys2Proof.Machine.execCmpZpInd zp s
  | .cmpZpX zp => Sys2Proof.Machine.execCmpZpX zp s
  | .decZpX zp => Sys2Proof.Machine.execDecZpX zp s
  | .smb5 zp => Sys2Proof.Machine.execSmb5 zp s
  | .cld => Sys2Proof.Machine.execCld s
  | .cmpAbsY addr => Sys2Proof.Machine.execCmpAbsY addr s
  | .phx => Sys2Proof.Machine.execPhx s
  | .stp => Sys2Proof.Machine.execStp s
  | .cmpAbsX addr => Sys2Proof.Machine.execCmpAbsX addr s
  | .decAbsX addr => Sys2Proof.Machine.execDecAbsX addr s
  | .bbs5 off => Sys2Proof.Machine.execBbs5 off s
  | .cpxImm imm => Sys2Proof.Machine.execCpxImm imm s
  | .sbcZpXInd zp => Sys2Proof.Machine.execSbcZpXInd zp s
  | .cpxZp zp => Sys2Proof.Machine.execCpxZp zp s
  | .sbcZp zp => Sys2Proof.Machine.execSbcZp zp s
  | .incZp zp => Sys2Proof.Machine.execIncZp zp s
  | .smb6 zp => Sys2Proof.Machine.execSmb6 zp s
  | .inx => Sys2Proof.Machine.execInx s
  | .sbcImm imm => Sys2Proof.Machine.execSbcImm imm s
  | .nop => Sys2Proof.Machine.execNop s
  | .cpxAbs addr => Sys2Proof.Machine.execCpxAbs addr s
  | .sbcAbs addr => Sys2Proof.Machine.execSbcAbs addr s
  | .incAbs addr => Sys2Proof.Machine.execIncAbs addr s
  | .bbs6 off => Sys2Proof.Machine.execBbs6 off s
  | .beq off => Sys2Proof.Machine.execBeq off s
  | .sbcZpIndY zp => Sys2Proof.Machine.execSbcZpIndY zp s
  | .sbcZpInd zp => Sys2Proof.Machine.execSbcZpInd zp s
  | .sbcZpX zp => Sys2Proof.Machine.execSbcZpX zp s
  | .incZpX zp => Sys2Proof.Machine.execIncZpX zp s
  | .smb7 zp => Sys2Proof.Machine.execSmb7 zp s
  | .sed => Sys2Proof.Machine.execSed s
  | .sbcAbsY addr => Sys2Proof.Machine.execSbcAbsY addr s
  | .plx => Sys2Proof.Machine.execPlx s
  | .sbcAbsX addr => Sys2Proof.Machine.execSbcAbsX addr s
  | .incAbsX addr => Sys2Proof.Machine.execIncAbsX addr s
  | .bbs7 off => Sys2Proof.Machine.execBbs7 off s

end Sys2Proof.Machine
end

