-- ==== Sys2Proof/Machine/Feed.lean ====
section
/-! DEFINITION. What the block does with one feed of the host (log entry 1). -/

namespace Sys2Proof.Machine

/-- One feed. At an instruction boundary, when the bytes begin with a whole instruction, that instruction runs and the
bytes after it are presented. Otherwise (inside an instruction, an undefined opcode, an instruction the feed breaks off)
each byte is a transaction of its own. -/
def runFeed (feed : List Byte) (s : State) : Host.Outcome State Fault Refusal :=
  if s.AtBoundary then
    match decode feed with
    | .error _ => .next (present feed s)
    | .ok (i, more) =>
      match exec i s with
      | .next t => .next (present more t)
      | .fault r => .fault r
      | .refused r => .refused r
  else .next (present feed s)

end Sys2Proof.Machine
end

