-- ==== Sys2Proof/Machine/Step.lean ====
section
/-! DEFINITION. One step of the machine: the block takes the host's oldest feed. -/

namespace Sys2Proof.Machine

/-- With no feed the block stays parked in its current state (R116, R315). -/
def step (s : State) : Host.Outcome State Fault Refusal :=
  match s.takeFeed with
  | none => .next s
  | some (feed, t) => runFeed feed t

/-- The host hands over the bytes of a table word as the very next feed. Nothing else changes: at an instruction boundary,
as after reset, the next step runs exactly that instruction; inside one, the bytes are its operand bytes (R102). -/
def State.withFetchWord (s : State) (nbits w : Nat) : State := { s with input := feedOfWord nbits w :: s.input }

end Sys2Proof.Machine
end

