-- ==== Sys2Proof/Machine/Flags.lean ====
section
/-! DEFINITION. The block has no flags (R29). The nearest thing is the status, which is not stored: it is computed here. -/

namespace Sys2Proof.Machine

/-- `status()` (R106), its tests in the spec's order. -/
def State.status (s : State) : Status :=
  if s.dv = false then .noInstruction
  else if s.rem = 0 then .instructionComplete
  else if s.rem = s.expectedCount then .awaitingFirstOperandByte
  else .awaitingSecondOperandByte

end Sys2Proof.Machine

namespace Sys2Proof

/-- The 2-bit code of a status on the port (R36, decision D11). -/
def Status.code : Status → BitVec 2
  | .noInstruction => 0
  | .awaitingFirstOperandByte => 1
  | .awaitingSecondOperandByte => 2
  | .instructionComplete => 3

end Sys2Proof
end

