-- ==== Sys2Proof/Machine/Accessors.lean ====
section
/-! DEFINITION. The read accessors (R108 to R114): pure functions of the registers, each `none` when its value is absent. -/

namespace Sys2Proof.Machine

/-- `descriptor()` (R108). -/
def State.descriptor (s : State) : Option Descriptor :=
  if s.dv = false then none
  else (rom s.opc).map fun (m, md) => { byte := s.opc, mnemonic := m, mode := md, text := m.text, count := md.count }

/-- `mnemonic()` (R109). -/
def State.mnemonic (s : State) : Option Mnemonic := if s.dv = false then none else classifyMnemonic s.opc

/-- `addressingMode()` (R110). -/
def State.addressingMode (s : State) : Option Mode := if s.dv = false then none else classifyAddressingMode s.opc

/-- `opcodeByte()` (R111). -/
def State.opcodeByte (s : State) : Option Byte := if s.dv = false then none else some s.opc

/-- `operand()` (R112): the raw value, also for a relative instruction. -/
def State.operand (s : State) : Option Operand := if s.ov = false then none else some s.opnd

/-- `totalBytes()` (R113). -/
def State.totalBytes (s : State) : Count := s.cnt

/-- `mnemonicText()` (R114). -/
def State.mnemonicText (s : State) : Option Text :=
  if s.dv = false then none else (classifyMnemonic s.opc).map Mnemonic.text

end Sys2Proof.Machine
end

