-- ==== Sys2Proof/Machine/Operands.lean ====
section
/-! DEFINITION. Every operand form as text: the hexadecimal format (R132), the syntax of each addressing mode (R133), and
the value a form displays (R131). -/

namespace Sys2Proof

/-- One hexadecimal digit, uppercase (R132). -/
def hexDigit (d : BitVec 4) : Char :=
  if d.toNat < 10 then Char.ofNat (48 + d.toNat) else Char.ofNat (55 + d.toNat)

/-- `HEX2(x)`: the two digits of a byte, most significant first (R132). -/
def hex2 (x : Byte) : Text := [hexDigit (x.extractLsb' 4 4), hexDigit (x.extractLsb' 0 4)]

/-- The least `k` in 1 to 4 with `v < 2^(8k)`: the number of byte groups (R132). -/
def hexGroupCount (v : Count) : Nat :=
  if v.toNat < 2 ^ 8 then 1 else if v.toNat < 2 ^ 16 then 2 else if v.toNat < 2 ^ 24 then 3 else 4

/-- The low `k` byte groups of a value, most significant first (R132). -/
def hexGroups : Nat → Count → Text
  | 0, _ => []
  | k + 1, v => hex2 (v.extractLsb' (8 * k) 8) ++ hexGroups k v

/-- `hex(v)` (R132). -/
def hex (v : Count) : Text := '$' :: hexGroups (hexGroupCount v) v

/-- `wrap(md, h)`: the operand syntax of each mode (R133). -/
def wrap (md : Mode) (h : Text) : Text :=
  match md with
  | .abs => h
  | .absXInd => ['('] ++ h ++ [',', ' ', 'X', ')']
  | .absX => h ++ [',', ' ', 'X']
  | .absY => h ++ [',', ' ', 'Y']
  | .absInd => ['('] ++ h ++ [')']
  | .acc => h ++ [' ', 'A']
  | .imm => ['#'] ++ h
  | .imp => h
  | .rel => h
  | .stk => h
  | .zp => h
  | .zpXInd => ['('] ++ h ++ [',', ' ', 'X', ')']
  | .zpX => h ++ [',', ' ', 'X']
  | .zpY => h ++ [',', ' ', 'Y']
  | .zpInd => ['('] ++ h ++ [')']
  | .zpIndY => ['('] ++ h ++ [')', ',', ' ', 'Y']

namespace Machine

/-- The relative target `CNT + sext_32(OPND[7:0])`, modulo 2^32 (R131). -/
def State.relativeTarget (s : State) : Count := s.cnt + sext32 (loByte s.opnd)

/-- `display(md)`: the relative target for REL, the operand itself for every other mode (R131). -/
def State.display (s : State) (md : Mode) : Count :=
  if md = .rel then s.relativeTarget else zext32 s.opnd

end Machine

end Sys2Proof
end

