-- ==== Sys2Proof/Machine/Render.lean ====
section
/-! DEFINITION. The text renderer (R130). It returns the operand syntax alone (R139), and makes no check of the status (C1). -/

namespace Sys2Proof.Machine

/-- `render()` (R130). -/
def State.render (s : State) : Option Text :=
  if s.dv = false then none
  else
    match classifyAddressingMode s.opc with
    | none => none
    | some md =>
      if s.ov = true ∧ md.count = 0 then none
      else if s.ov = false ∧ md.count ≠ 0 then none
      else some (wrap md (if s.ov = true then hex (s.display md) else []))

end Sys2Proof.Machine
end

