-- ==== Sys2Proof/Machine/Outcomes.lean ====
section
/-! DEFINITION. The error outcomes of R301 as results. None of them stops the block or is stored (R300, R301). -/

namespace Sys2Proof.Machine

/-- Which of the three things a decode transaction does (R305): the state alone says whether the byte starts an instruction. -/
def transactionKind (b : Byte) (s : State) : TransactionKind :=
  if s.AtBoundary then (if (resolve b).isSome then .newInstruction else .unrecognizedOpcode) else .operandByte

/-- The error outcome of a decode transaction, if it has one (R302). -/
def decodeOutcome (b : Byte) (s : State) : Option ErrorOutcome :=
  if transactionKind b s = .unrecognizedOpcode then some .unrecognizedOpcode else none

/-- `render()` with its failure named (R303). -/
def State.renderResult (s : State) : Except ErrorOutcome Text :=
  match s.render with
  | some t => .ok t
  | none => .error .inconsistentRender

/-- An accessor's answer with its failure named (R304). -/
def accessResult {α : Type} (answer : Option α) : Except ErrorOutcome α :=
  match answer with
  | some v => .ok v
  | none => .error .absentValue

end Sys2Proof.Machine
end

