-- ==== Sys2Proof/Machine/Ports.lean ====
section
/-! DEFINITION. The block's interface as ports (R101, decisions D1 and D15). An output whose valid bit is 0 is `none`. -/

namespace Sys2Proof.Machine

/-- The two input ports. -/
structure InPorts where
  byteIn : Byte
  decode : Bool
deriving DecidableEq, Repr

/-- The output ports, in R101's order. -/
structure OutPorts where
  status       : BitVec 2
  descValid    : Bool
  descOpcode   : Option Byte
  descMnemonic : Option (BitVec 7)
  descMode     : Option (BitVec 4)
  descCount    : Option (BitVec 2)
  operandValid : Bool
  operand      : Option Operand
  byteCount    : Count
  mnemText     : Option Text
  renderText   : Option Text
deriving DecidableEq, Repr

/-- A pulse on `decode` is one transaction with `byte_in` (R101, R102); without one, nothing changes (R116). -/
def State.clockPorts (p : InPorts) (s : State) : State := if p.decode then decodeByte p.byteIn s else s

/-- Every output, a pure function of the registers (R101). -/
def State.ports (s : State) : OutPorts :=
  { status := s.status.code
    descValid := s.dv
    descOpcode := s.opcodeByte
    descMnemonic := s.mnemonic.map Mnemonic.id
    descMode := s.addressingMode.map Mode.id
    descCount := s.descriptor.map fun d => BitVec.ofNat 2 d.count.val
    operandValid := s.ov
    operand := s.operand
    byteCount := s.totalBytes
    mnemText := s.mnemonicText
    renderText := s.render }

end Sys2Proof.Machine
end

