-- ==== Sys2Proof/Safety.lean ====
section
/-! DEFINITION. What counts as a good state and a safe run. -/

namespace Sys2Proof.Machine

/-- The register invariant: the five lines of 10_state.md R26 (R25 (a) is in the first), and R22's "when `OV = 0` ... this
spec sets it to 0" of `OPND`. -/
structure State.Inv (s : State) : Prop where
  empty      : s.dv = false → s.rem = 0 ∧ s.ov = false
  resolves   : s.dv = true → (rom s.opc).isSome = true ∧ s.rem ≤ s.expectedCount
  present    : s.ov = true ↔ s.dv = true ∧ s.expectedCount ≠ 0 ∧ s.rem < s.expectedCount
  oneByte    : s.ov = true → s.expectedCount = 1 → hiByte s.opnd = 0
  firstOfTwo : s.ov = true → s.expectedCount = 2 → s.rem = 1 → hiByte s.opnd = 0
  cleared    : s.ov = false → s.opnd = 0

/-- A run is safe when it ends in a good state: by R300 no step may stop the block. -/
def SafeOutcome (o : Host.Outcome State Fault Refusal) : Prop := ∃ t, o = .next t ∧ t.Inv

end Sys2Proof.Machine
end

