-- ==== Sys2Proof/Certificates/Slice0/Obligations.lean ====
section
/-! DEFINITION. The statements about the model, and the few words they are written with. -/

namespace Sys2Proof.Claims

open Sys2Proof.Machine

/-- The state after a completed instruction: opcode `o`, its operand, and `len` bytes more consumed. -/
def completed (o : Byte) (operand : Option Operand) (len : Count) (s : State) : State :=
  { s with dv := true, opc := o, ov := operand.isSome, opnd := operand.getD 0, rem := 0, cnt := s.cnt + len }

/-- What every output shows of a completed instruction, and that the next byte, whatever it is, starts a new one. -/
def ReadsAsComplete (t : State) (d : Descriptor) (operand : Option Operand) (text : Text) : Prop :=
  t.status = .instructionComplete ∧ t.descriptor = some d ∧ t.mnemonic = some d.mnemonic ∧
  t.addressingMode = some d.mode ∧ t.opcodeByte = some d.byte ∧ t.mnemonicText = some d.text ∧
  t.operand = operand ∧ t.render = some text ∧ ∀ b, decodeByte b t = startInstruction b t.countByte

/-- A state in which the descriptor `d` is installed and `awaited` operand bytes are still to come. -/
def Awaits (t : State) (d : Descriptor) (awaited : Fin 3) (status : Status) : Prop :=
  t.dv = true ∧ t.opc = d.byte ∧ t.rem = awaited ∧ t.status = status ∧ t.descriptor = some d ∧
  t.mnemonicText = some d.text

/-- A table row of a mnemonic with no operand byte: opcode `o`, mode `md`, instruction `i`, rendered `text`. -/
def Form0 (m : Mnemonic) (txt : Text) : Byte × Mode × Instr × Text → Prop := fun (o, md, i, text) =>
  rom o = some (m, md) ∧ md.count = 0 ∧ encode i = [o] ∧
  ∀ s : State, s.AtBoundary →
    decodeByte o s = completed o none 1 s ∧
    exec i s = .next (completed o none 1 s) ∧
    ReadsAsComplete (completed o none 1 s) ⟨o, m, md, txt, 0⟩ none text

/-- A table row with one operand byte; `text` gives the rendered text from the byte count after it and the byte. -/
def Form1 (m : Mnemonic) (txt : Text) : Byte × Mode × (Byte → Instr) × (Count → Byte → Text) → Prop :=
  fun (o, md, mk, text) =>
  rom o = some (m, md) ∧ md.count = 1 ∧ (∀ b1, encode (mk b1) = [o, b1]) ∧
  ∀ (s : State) (b1 : Byte), s.AtBoundary →
    Awaits (decodeByte o s) ⟨o, m, md, txt, 1⟩ 1 .awaitingFirstOperandByte ∧
    decodeByte b1 (decodeByte o s) = completed o (some (b1.setWidth 16)) 2 s ∧
    exec (mk b1) s = .next (completed o (some (b1.setWidth 16)) 2 s) ∧
    ReadsAsComplete (completed o (some (b1.setWidth 16)) 2 s) ⟨o, m, md, txt, 1⟩ (some (b1.setWidth 16))
      (text (s.cnt + 2) b1)

/-- A table row with two operand bytes, low byte first; `text` gives the rendered text from the operand's hex text. -/
def Form2 (m : Mnemonic) (txt : Text) : Byte × Mode × (Operand → Instr) × (Text → Text) → Prop :=
  fun (o, md, mk, text) =>
  rom o = some (m, md) ∧ md.count = 2 ∧
  ∀ b1 b2 : Byte, ∀ v : Operand, v = (b2.setWidth 16 <<< 8) ||| b1.setWidth 16 →
    encode (mk v) = [o, b1, b2] ∧
    ∀ s : State, s.AtBoundary →
      Awaits (decodeByte o s) ⟨o, m, md, txt, 2⟩ 2 .awaitingFirstOperandByte ∧
      Awaits (decodeByte b1 (decodeByte o s)) ⟨o, m, md, txt, 2⟩ 1 .awaitingSecondOperandByte ∧
      (decodeByte b1 (decodeByte o s)).render = some (text (hex (b1.setWidth 32))) ∧
      decodeByte b2 (decodeByte b1 (decodeByte o s)) = completed o (some v) 3 s ∧
      exec (mk v) s = .next (completed o (some v) 3 s) ∧
      ReadsAsComplete (completed o (some v) 3 s) ⟨o, m, md, txt, 2⟩ (some v) (text (hex (v.setWidth 32)))

/-- The whole rule of one mnemonic: its id and display text, and all its rows, which are all the opcodes it has. -/
def MnemonicRule (m : Mnemonic) (id : BitVec 7) (txt : Text)
    (f0 : List (Byte × Mode × Instr × Text))
    (f1 : List (Byte × Mode × (Byte → Instr) × (Count → Byte → Text)))
    (f2 : List (Byte × Mode × (Operand → Instr) × (Text → Text))) : Prop :=
  m.id = id ∧ m.text = txt ∧ (∀ f ∈ f0, Form0 m txt f) ∧ (∀ f ∈ f1, Form1 m txt f) ∧ (∀ f ∈ f2, Form2 m txt f) ∧
  ∀ b, (classifyMnemonic b = some m ↔ b ∈ f0.map (·.1) ++ f1.map (·.1) ++ f2.map (·.1))

/-- `{hex}`. -/
def bare (h : Text) : Text := h
/-- `#{hex}`. -/
def hashed (h : Text) : Text := '#' :: h
/-- `{hex}, X`. -/
def commaX (h : Text) : Text := h ++ [',', ' ', 'X']
/-- `{hex}, Y`. -/
def commaY (h : Text) : Text := h ++ [',', ' ', 'Y']
/-- `({hex})`. -/
def inParens (h : Text) : Text := '(' :: (h ++ [')'])
/-- `({hex}, X)`. -/
def inParensX (h : Text) : Text := '(' :: (h ++ [',', ' ', 'X', ')'])
/-- `({hex}), Y`. -/
def inParensY (h : Text) : Text := '(' :: (h ++ [')', ',', ' ', 'Y'])

/-- The text of a one-byte operand that is not relative. -/
def ofByte (template : Text → Text) (_ : Count) (b1 : Byte) : Text := template (hex (b1.setWidth 32))
/-- The text of a relative operand: `hex(CNT + sext_32(b1))`, modulo 2^32. -/
def target (count : Count) (b1 : Byte) : Text := hex (count + b1.signExtend 32)

/-- The branch mnemonics of 45_control.md (R224 to R232): opcode and instruction. -/
def branchForms : List (Byte × (Byte → Instr)) :=
  [(0x10, .bpl), (0x30, .bmi), (0x50, .bvc), (0x70, .bvs), (0x90, .bcc), (0xB0, .bcs), (0xD0, .bne), (0xF0, .beq), (0x80, .bra)]

/-- The statuses after each of the bytes in turn. -/
def statusTrace : List Byte → State → List Status
  | [], _ => []
  | b :: bs, s => (decodeByte b s).status :: statusTrace bs (decodeByte b s)

/-- The statuses of an instruction of the given number of bytes (R107). -/
def expectedTrace : Nat → List Status
  | 1 => [.instructionComplete]
  | 2 => [.awaitingFirstOperandByte, .instructionComplete]
  | 3 => [.awaitingFirstOperandByte, .awaitingSecondOperandByte, .instructionComplete]
  | _ => []

/-- The byte values in order. -/
def allBytes : List Byte := (List.range 256).map (BitVec.ofNat 8)

/-- The 44 values of R66. -/
def undefinedOpcodes : List Byte :=
  [0x02, 0x03, 0x0B, 0x13, 0x1B, 0x22, 0x23, 0x2B, 0x33, 0x3B, 0x42, 0x43,
   0x44, 0x4B, 0x53, 0x54, 0x5B, 0x5C, 0x62, 0x63, 0x6B, 0x73, 0x7B, 0x82,
   0x83, 0x8B, 0x93, 0x9B, 0xA3, 0xAB, 0xB3, 0xBB, 0xC2, 0xC3, 0xD3, 0xD4,
   0xDC, 0xE2, 0xE3, 0xEB, 0xF3, 0xF4, 0xFB, 0xFC]

/-- The value of a hexadecimal digit, none for any other character. -/
def digitValue (c : Char) : Option Nat :=
  if '0' ≤ c ∧ c ≤ '9' then some (c.toNat - '0'.toNat)
  else if 'A' ≤ c ∧ c ≤ 'F' then some (c.toNat - 'A'.toNat + 10)
  else none

/-- The value of a text of uppercase hexadecimal digits, most significant first, none if it holds anything else. -/
def digitsValue (t : Text) : Option Nat :=
  t.foldl (fun acc c => acc.bind fun n => (digitValue c).map fun d => 16 * n + d) (some 0)

/-- A row of R64's table: mnemonic, id, display text, and its opcodes with their modes. -/
abbrev MnemonicRow := Mnemonic × BitVec 7 × Text × List (Byte × Mode)

/-- Rows 0 to 13 of the table of R64. -/
def mnemonicRows0 : List MnemonicRow :=
  [(.adc, 0, ['A', 'D', 'C'],
     [(0x61, .zpXInd), (0x65, .zp), (0x69, .imm), (0x6D, .abs), (0x71, .zpIndY), (0x72, .zpInd), (0x75, .zpX), (0x79, .absY), (0x7D, .absX)]),
   (.and, 1, ['A', 'N', 'D'],
     [(0x21, .zpXInd), (0x25, .zp), (0x29, .imm), (0x2D, .abs), (0x31, .zpIndY), (0x32, .zpInd), (0x35, .zpX), (0x39, .absY), (0x3D, .absX)]),
   (.asl, 2, ['A', 'S', 'L'],
     [(0x06, .zp), (0x0A, .acc), (0x0E, .abs), (0x16, .zpX), (0x1E, .absX)]),
   (.bbr0, 3, ['B', 'B', 'R', '0'],
     [(0x0F, .rel)]),
   (.bbr1, 4, ['B', 'B', 'R', '1'],
     [(0x1F, .rel)]),
   (.bbr2, 5, ['B', 'B', 'R', '2'],
     [(0x2F, .rel)]),
   (.bbr3, 6, ['B', 'B', 'R', '3'],
     [(0x3F, .rel)]),
   (.bbr4, 7, ['B', 'B', 'R', '4'],
     [(0x4F, .rel)]),
   (.bbr5, 8, ['B', 'B', 'R', '5'],
     [(0x5F, .rel)]),
   (.bbr6, 9, ['B', 'B', 'R', '6'],
     [(0x6F, .rel)]),
   (.bbr7, 10, ['B', 'B', 'R', '7'],
     [(0x7F, .rel)]),
   (.bbs0, 11, ['B', 'B', 'S', '0'],
     [(0x8F, .rel)]),
   (.bbs1, 12, ['B', 'B', 'S', '1'],
     [(0x9F, .rel)]),
   (.bbs2, 13, ['B', 'B', 'S', '2'],
     [(0xAF, .rel)])]

/-- Rows 14 to 27 of the table of R64. -/
def mnemonicRows1 : List MnemonicRow :=
  [(.bbs3, 14, ['B', 'B', 'S', '3'],
     [(0xBF, .rel)]),
   (.bbs4, 15, ['B', 'B', 'S', '4'],
     [(0xCF, .rel)]),
   (.bbs5, 16, ['B', 'B', 'S', '5'],
     [(0xDF, .rel)]),
   (.bbs6, 17, ['B', 'B', 'S', '6'],
     [(0xEF, .rel)]),
   (.bbs7, 18, ['B', 'B', 'S', '7'],
     [(0xFF, .rel)]),
   (.bcc, 19, ['B', 'C', 'C'],
     [(0x90, .rel)]),
   (.bcs, 20, ['B', 'C', 'S'],
     [(0xB0, .rel)]),
   (.beq, 21, ['B', 'E', 'Q'],
     [(0xF0, .rel)]),
   (.bit, 22, ['B', 'I', 'T'],
     [(0x24, .zp), (0x2C, .abs), (0x34, .zpX), (0x3C, .absX), (0x89, .imm)]),
   (.bmi, 23, ['B', 'M', 'I'],
     [(0x30, .rel)]),
   (.bne, 24, ['B', 'N', 'E'],
     [(0xD0, .rel)]),
   (.bpl, 25, ['B', 'P', 'L'],
     [(0x10, .rel)]),
   (.bra, 26, ['B', 'R', 'A'],
     [(0x80, .rel)]),
   (.brk, 27, ['B', 'R', 'K'],
     [(0x00, .stk)])]

/-- Rows 28 to 41 of the table of R64. -/
def mnemonicRows2 : List MnemonicRow :=
  [(.bvc, 28, ['B', 'V', 'C'],
     [(0x50, .rel)]),
   (.bvs, 29, ['B', 'V', 'S'],
     [(0x70, .rel)]),
   (.clc, 30, ['C', 'L', 'C'],
     [(0x18, .imp)]),
   (.cld, 31, ['C', 'L', 'D'],
     [(0xD8, .imp)]),
   (.cli, 32, ['C', 'L', 'I'],
     [(0x58, .imp)]),
   (.clv, 33, ['C', 'L', 'V'],
     [(0xB8, .imp)]),
   (.cmp, 34, ['C', 'M', 'P'],
     [(0xC1, .zpXInd), (0xC5, .zp), (0xC9, .imm), (0xCD, .abs), (0xD1, .zpIndY), (0xD2, .zpInd), (0xD5, .zpX), (0xD9, .absY), (0xDD, .absX)]),
   (.cpx, 35, ['C', 'P', 'X'],
     [(0xE0, .imm), (0xE4, .zp), (0xEC, .abs)]),
   (.cpy, 36, ['C', 'P', 'Y'],
     [(0xC0, .imm), (0xC4, .zp), (0xCC, .abs)]),
   (.dec, 37, ['D', 'E', 'C'],
     [(0x3A, .acc), (0xC6, .zp), (0xCE, .abs), (0xD6, .zpX), (0xDE, .absX)]),
   (.dex, 38, ['D', 'E', 'X'],
     [(0xCA, .imp)]),
   (.dey, 39, ['D', 'E', 'Y'],
     [(0x88, .imp)]),
   (.eor, 40, ['E', 'O', 'R'],
     [(0x41, .zpXInd), (0x45, .zp), (0x49, .imm), (0x4D, .abs), (0x51, .zpIndY), (0x52, .zpInd), (0x55, .zpX), (0x59, .absY), (0x5D, .absX)]),
   (.inc, 41, ['I', 'N', 'C'],
     [(0x1A, .acc), (0xE6, .zp), (0xEE, .abs), (0xF6, .zpX), (0xFE, .absX)])]

/-- Rows 42 to 55 of the table of R64. -/
def mnemonicRows3 : List MnemonicRow :=
  [(.inx, 42, ['I', 'N', 'X'],
     [(0xE8, .imp)]),
   (.iny, 43, ['I', 'N', 'Y'],
     [(0xC8, .imp)]),
   (.jmp, 44, ['J', 'M', 'P'],
     [(0x4C, .abs), (0x6C, .absInd), (0x7C, .absXInd)]),
   (.jsr, 45, ['J', 'S', 'R'],
     [(0x20, .abs)]),
   (.lda, 46, ['L', 'D', 'A'],
     [(0xA1, .zpXInd), (0xA5, .zp), (0xA9, .imm), (0xAD, .abs), (0xB1, .zpIndY), (0xB2, .zpInd), (0xB5, .zpX), (0xB9, .absY), (0xBD, .absX)]),
   (.ldx, 47, ['L', 'D', 'X'],
     [(0xA2, .imm), (0xA6, .zp), (0xAE, .abs), (0xB6, .zpY), (0xBE, .absY)]),
   (.ldy, 48, ['L', 'D', 'Y'],
     [(0xA0, .imm), (0xA4, .zp), (0xAC, .abs), (0xB4, .zpX), (0xBC, .absX)]),
   (.lsr, 49, ['L', 'S', 'R'],
     [(0x46, .zp), (0x4A, .acc), (0x4E, .abs), (0x56, .zpX), (0x5E, .absX)]),
   (.nop, 50, ['N', 'O', 'P'],
     [(0xEA, .imp)]),
   (.ora, 51, ['O', 'R', 'A'],
     [(0x01, .zpXInd), (0x05, .zp), (0x09, .imm), (0x0D, .abs), (0x11, .zpIndY), (0x12, .zpInd), (0x15, .zpX), (0x19, .absY), (0x1D, .absX)]),
   (.pha, 52, ['P', 'H', 'A'],
     [(0x48, .stk)]),
   (.php, 53, ['P', 'H', 'P'],
     [(0x08, .stk)]),
   (.phx, 54, ['P', 'H', 'X'],
     [(0xDA, .stk)]),
   (.phy, 55, ['P', 'H', 'Y'],
     [(0x5A, .stk)])]

/-- Rows 56 to 69 of the table of R64. -/
def mnemonicRows4 : List MnemonicRow :=
  [(.pla, 56, ['P', 'L', 'A'],
     [(0x68, .stk)]),
   (.plp, 57, ['P', 'L', 'P'],
     [(0x28, .stk)]),
   (.plx, 58, ['P', 'L', 'X'],
     [(0xFA, .stk)]),
   (.ply, 59, ['P', 'L', 'Y'],
     [(0x7A, .stk)]),
   (.rmb0, 60, ['R', 'M', 'B', '0'],
     [(0x07, .zp)]),
   (.rmb1, 61, ['R', 'M', 'B', '1'],
     [(0x17, .zp)]),
   (.rmb2, 62, ['R', 'M', 'B', '2'],
     [(0x27, .zp)]),
   (.rmb3, 63, ['R', 'M', 'B', '3'],
     [(0x37, .zp)]),
   (.rmb4, 64, ['R', 'M', 'B', '4'],
     [(0x47, .zp)]),
   (.rmb5, 65, ['R', 'M', 'B', '5'],
     [(0x57, .zp)]),
   (.rmb6, 66, ['R', 'M', 'B', '6'],
     [(0x67, .zp)]),
   (.rmb7, 67, ['R', 'M', 'B', '7'],
     [(0x77, .zp)]),
   (.rol, 68, ['R', 'O', 'L'],
     [(0x26, .zp), (0x2A, .acc), (0x2E, .abs), (0x36, .zpX), (0x3E, .absX)]),
   (.ror, 69, ['R', 'O', 'R'],
     [(0x66, .zp), (0x6A, .acc), (0x6E, .abs), (0x76, .zpX), (0x7E, .absX)])]

/-- Rows 70 to 83 of the table of R64. -/
def mnemonicRows5 : List MnemonicRow :=
  [(.rti, 70, ['R', 'T', 'I'],
     [(0x40, .stk)]),
   (.rts, 71, ['R', 'T', 'S'],
     [(0x60, .stk)]),
   (.sbc, 72, ['S', 'B', 'C'],
     [(0xE1, .zpXInd), (0xE5, .zp), (0xE9, .imm), (0xED, .abs), (0xF1, .zpIndY), (0xF2, .zpInd), (0xF5, .zpX), (0xF9, .absY), (0xFD, .absX)]),
   (.sec, 73, ['S', 'E', 'C'],
     [(0x38, .imp)]),
   (.sed, 74, ['S', 'E', 'D'],
     [(0xF8, .imp)]),
   (.sei, 75, ['S', 'E', 'I'],
     [(0x78, .imp)]),
   (.smb0, 76, ['S', 'M', 'B', '0'],
     [(0x87, .zp)]),
   (.smb1, 77, ['S', 'M', 'B', '1'],
     [(0x97, .zp)]),
   (.smb2, 78, ['S', 'M', 'B', '2'],
     [(0xA7, .zp)]),
   (.smb3, 79, ['S', 'M', 'B', '3'],
     [(0xB7, .zp)]),
   (.smb4, 80, ['S', 'M', 'B', '4'],
     [(0xC7, .zp)]),
   (.smb5, 81, ['S', 'M', 'B', '5'],
     [(0xD7, .zp)]),
   (.smb6, 82, ['S', 'M', 'B', '6'],
     [(0xE7, .zp)]),
   (.smb7, 83, ['S', 'M', 'B', '7'],
     [(0xF7, .zp)])]

/-- Rows 84 to 97 of the table of R64. -/
def mnemonicRows6 : List MnemonicRow :=
  [(.sta, 84, ['S', 'T', 'A'],
     [(0x81, .zpXInd), (0x85, .zp), (0x8D, .abs), (0x91, .zpIndY), (0x92, .zpInd), (0x95, .zpX), (0x99, .absY), (0x9D, .absX)]),
   (.stp, 85, ['S', 'T', 'P'],
     [(0xDB, .imp)]),
   (.stx, 86, ['S', 'T', 'X'],
     [(0x86, .zp), (0x8E, .abs), (0x96, .zpY)]),
   (.sty, 87, ['S', 'T', 'Y'],
     [(0x84, .zp), (0x8C, .abs), (0x94, .zpX)]),
   (.stz, 88, ['S', 'T', 'Z'],
     [(0x64, .zp), (0x74, .zpX), (0x9C, .abs), (0x9E, .absX)]),
   (.tax, 89, ['T', 'A', 'X'],
     [(0xAA, .imp)]),
   (.tay, 90, ['T', 'A', 'Y'],
     [(0xA8, .imp)]),
   (.trb, 91, ['T', 'R', 'B'],
     [(0x14, .zp), (0x1C, .abs)]),
   (.tsb, 92, ['T', 'S', 'B'],
     [(0x04, .zp), (0x0C, .abs)]),
   (.tsx, 93, ['T', 'S', 'X'],
     [(0xBA, .imp)]),
   (.txa, 94, ['T', 'X', 'A'],
     [(0x8A, .imp)]),
   (.txs, 95, ['T', 'X', 'S'],
     [(0x9A, .imp)]),
   (.tya, 96, ['T', 'Y', 'A'],
     [(0x98, .imp)]),
   (.wai, 97, ['W', 'A', 'I'],
     [(0xCB, .imp)])]

/-- The 98 rows. -/
def mnemonicRows : List MnemonicRow := mnemonicRows0 ++ mnemonicRows1 ++ mnemonicRows2 ++ mnemonicRows3 ++ mnemonicRows4 ++ mnemonicRows5 ++ mnemonicRows6

end Sys2Proof.Claims

open Sys2Proof Sys2Proof.Machine Sys2Proof.Claims

/-- Words written out bit by bit decode to their instructions. Derived from 30_encoding.md section 6, 30_encoding.md R65,
opcode_table.json. -/
def Obligations.WrittenOutWordsDecode : Prop :=
  decodeTableWord 16 0b01000100_00001001 = some (.oraImm 0x44) ∧
  decodeTableWord 24 0b00010010_00110100_01101101 = some (.adcAbs 0x1234) ∧
  decodeTableWord 8 0b00001010 = some .aslAcc ∧
  decodeTableWord 24 0b00010010_00110100_11111110 = some (.incAbsX 0x1234) ∧
  decodeTableWord 16 0b01000100_10110110 = some (.ldxZpY 0x44) ∧
  decodeTableWord 24 0b00010010_00110100_10011110 = some (.stzAbsX 0x1234) ∧
  decodeTableWord 16 0b11111011_11110000 = some (.beq 0xFB) ∧
  decodeTableWord 24 0b00010010_00110100_01111100 = some (.jmpAbsXInd 0x1234) ∧
  decodeTableWord 8 0b00000000 = some .brk ∧
  decodeTableWord 8 0b11001011 = some .wai ∧
  decodeTableWord 8 0b11111010 = some .plx ∧
  decodeTableWord 16 0b01000100_01110111 = some (.rmb7 0x44) ∧
  decodeTableWord 16 0b01000100_10000111 = some (.smb0 0x44) ∧
  decodeTableWord 16 0b00010010_00001111 = some (.bbr0 0x12) ∧
  decodeTableWord 16 0b11110000_11111111 = some (.bbs7 0xF0) ∧
  decodeTableWord 8 0b00000010 = none ∧ decodeTableWord 8 0b11111100 = none

/-- Decoding the encoding of any instruction gives it back, whatever bytes follow. Derived from 30_encoding.md R60,
30_encoding.md section 6, 20_memory.md R43. -/
def Obligations.DecodeOfEncodeIsTheInstruction : Prop :=
  ∀ (i : Instr) (rest : List Byte), decode (encode i ++ rest) = .ok (i, rest)

/-- Bytes that decode to an instruction are its encoding: each encoding has one meaning. Derived from 30_encoding.md R60,
30_encoding.md R70, 30_encoding.md section 6. -/
def Obligations.DecodedBytesAreTheEncoding : Prop :=
  ∀ (bs : List Byte) (i : Instr) (rest : List Byte), decode bs = .ok (i, rest) → bs = encode i ++ rest

/-- The decoder and the opcode ROM accept the same bytes. Derived from 30_encoding.md R60, 30_encoding.md R70,
30_encoding.md R71, 40_decoder_operations.md R100. -/
def Obligations.DecoderAcceptsWhatTheRomAccepts : Prop :=
  (∀ bs : List Byte, wellFormedBytes bs = true ↔ ∃ i, decode bs = .ok (i, [])) ∧
  (∀ (b : Byte) (bs : List Byte), decode (b :: bs) = .error (.undefinedOpcode b) ↔ resolve b = none)

/-- Exactly the 44 listed byte values have no match in both classification functions. States R66. -/
def Obligations.UndefinedOpcodesAreExactlyThe44 : Prop :=
  undefinedOpcodes.length = 44 ∧ undefinedOpcodes.Nodup ∧
  ∀ b : Byte, (classifyMnemonic b = none ↔ b ∈ undefinedOpcodes) ∧ (classifyAddressingMode b = none ↔ b ∈ undefinedOpcodes)

/-- The opcode ROM (R65) agrees with the mnemonic table (R64), row by row. Derived from 30_encoding.md R64, 30_encoding.md
R65, 92_eei_decisions.md D6, 92_eei_decisions.md D7, 92_eei_decisions.md D9, 92_eei_decisions.md D20. The opcode map
is the spec's general knowledge (D7), the ids, the mode of BBRn and BBSn and the spelling are its decisions D9, D6 and
D20. -/
def Obligations.RomAgreesWithTheMnemonicTable : Prop :=
  mnemonicRows.length = 98 ∧ (mnemonicRows.map (·.1.id)).Nodup ∧
  (∀ r ∈ mnemonicRows, r.1.id = r.2.1 ∧ r.1.text = r.2.2.1 ∧ ∀ f ∈ r.2.2.2, rom f.1 = some (r.1, f.2)) ∧
  ∀ b : Byte, (rom b).isSome = true → ∃ r ∈ mnemonicRows, ∃ f ∈ r.2.2.2, f.1 = b

/-- Each addressing mode has its fixed operand byte count. States R62. -/
def Obligations.OperandByteCountOfEachMode : Prop :=
  (∀ md ∈ ([.abs, .absXInd, .absX, .absY, .absInd] : List Mode), md.count = 2) ∧
  (∀ md ∈ ([.imm, .rel, .zp, .zpXInd, .zpX, .zpY, .zpInd, .zpIndY] : List Mode), md.count = 1) ∧
  (∀ md ∈ ([.acc, .imp, .stk] : List Mode), md.count = 0)

/-- No byte has a mnemonic without an addressing mode or the reverse, and the resolver needs both. States R67. -/
def Obligations.ClassificationFunctionsAgree : Prop :=
  ∀ b : Byte, (classifyMnemonic b).isSome = (classifyAddressingMode b).isSome ∧
    (resolve b = none ↔ classifyMnemonic b = none ∨ classifyAddressingMode b = none)

/-- The four opcode cells the source itself gives. States R68. -/
def Obligations.CellsTheSourceFixes : Prop :=
  rom 0xA9 = some (.lda, .imm) ∧ rom 0x6D = some (.adc, .abs) ∧ rom 0xF0 = some (.beq, .rel) ∧ rom 0x02 = none

/-- 212 opcodes are defined and 44 are not, with the counts of each mode. Derived from 30_encoding.md R65, 00_scope.md
R11, 92_eei_decisions.md D7. The map is the spec's general knowledge of the W65C02S (D7). -/
def Obligations.OpcodeMapCounts : Prop :=
  (allBytes.filter fun b => (rom b).isSome).length = Config.numOpcodesDefined ∧
  (allBytes.filter fun b => !(rom b).isSome).length = 44 ∧
  (([.abs, .absXInd, .absX, .absY, .absInd, .acc, .imm, .imp, .rel, .stk, .zp, .zpXInd, .zpX, .zpY, .zpInd, .zpIndY] : List Mode).map
    fun md => (allBytes.filter fun b => classifyAddressingMode b == some md).length) =
      [26, 1, 17, 9, 1, 6, 12, 20, 25, 11, 40, 8, 18, 2, 8, 8]

/-- The 12-bit ROM word holds the valid bit, the mnemonic id and the mode id. Derived from 10_state.md R32,
92_eei_decisions.md D9, 92_eei_decisions.md D10. The layout and the ids are the spec's decisions D9 and D10. -/
def Obligations.RomWordLayout : Prop :=
  ∀ b : Byte, (rom b = none → romWord b = 0) ∧
    ∀ m md, rom b = some (m, md) →
      (romWord b).getLsbD 11 = true ∧ (romWord b).extractLsb' 4 7 = m.id ∧ (romWord b).extractLsb' 0 4 = md.id

/-- resolve(b) gives none without a match, else the five-field descriptor. States R100. -/
def Obligations.ResolverBuildsTheDescriptor : Prop :=
  ∀ b : Byte,
    ((classifyMnemonic b = none ∨ classifyAddressingMode b = none) → resolve b = none) ∧
    ∀ m md, classifyMnemonic b = some m → classifyAddressingMode b = some md → resolve b = some ⟨b, m, md, m.text, md.count⟩

/-- decodeByte(b) writes exactly what its three steps write. States R102. -/
def Obligations.DecodeTransactionFollowsItsSteps : Prop :=
  ∀ (b : Byte) (s : State),
    ((s.dv = false ∨ s.rem = 0) →
      (resolve b = none → decodeByte b s = { s with dv := false, ov := false, opnd := 0, rem := 0, cnt := s.cnt + 1 }) ∧
      (∀ d, resolve b = some d →
        decodeByte b s = { s with dv := true, opc := b, ov := false, opnd := 0, rem := d.count, cnt := s.cnt + 1 })) ∧
    (s.dv = true → ∀ (r : Fin 3) (m : Mnemonic) (md : Mode), s.rem.val = r.val + 1 → rom s.opc = some (m, md) → s.rem ≤ md.count →
      decodeByte b s =
        { s with
          opnd := s.opnd ||| (b.setWidth 16 <<< (8 * (md.count.val - s.rem.val)))
          ov := true, rem := r, cnt := s.cnt + 1 })

/-- An undefined byte at a boundary is discarded and leaves no trace but the count. States R103. -/
def Obligations.UndefinedByteIsDiscarded : Prop :=
  ∀ (b : Byte) (s : State), b ∈ undefinedOpcodes → s.AtBoundary →
    (decodeByte b s).dv = false ∧ (decodeByte b s).ov = false ∧ (decodeByte b s).rem = 0 ∧
    (decodeByte b s).cnt = s.cnt + 1 ∧ (decodeByte b s).status = .noInstruction ∧
    (decodeByte b s).descriptor = none ∧ (decodeByte b s).mnemonic = none ∧ (decodeByte b s).addressingMode = none ∧
    (decodeByte b s).opcodeByte = none ∧ (decodeByte b s).operand = none ∧ (decodeByte b s).mnemonicText = none ∧
    (decodeByte b s).render = none ∧
    ∀ next : Byte, (decodeByte next (decodeByte b s)).ports =
      (decodeByte next { State.reset with cnt := s.cnt + 1 }).ports

/-- A byte that resolves installs its descriptor and count; with count 0 the instruction completes at once. States R104. -/
def Obligations.OpcodeInstallsItsDescriptor : Prop :=
  ∀ (b : Byte) (d : Descriptor) (s : State), s.AtBoundary → resolve b = some d →
    (decodeByte b s).descriptor = some d ∧ (decodeByte b s).rem = d.count ∧
    (d.count = 0 →
      (decodeByte b s).status = .instructionComplete ∧ (decodeByte b s).ov = false ∧ (decodeByte b s).operand = none ∧
      ∀ next : Byte, decodeByte next (decodeByte b s) = startInstruction next (decodeByte b s).countByte)

/-- The first operand byte becomes the low-order byte, the second the high-order byte. States R43. -/
def Obligations.OperandsAreLittleEndian : Prop :=
  ∀ (o b1 b2 : Byte) (d : Descriptor) (s : State), s.AtBoundary → resolve o = some d →
    (d.count = 2 → (present [o, b1, b2] s).opnd = (b2.setWidth 16 <<< 8) ||| b1.setWidth 16) ∧
    (d.count = 1 → (present [o, b1] s).opnd = b1.setWidth 16)

/-- Inside an instruction any byte is an operand byte: folded at its position, descriptor unchanged. Derived from
40_decoder_operations.md R102, 40_decoder_operations.md R105, 70_reset_and_hazards.md R335, 92_eei_decisions.md D5. In
every state of the invariant that is not at a boundary, any byte, whatever its value, is folded in: the descriptor, DV
and OPC stay, the first operand byte becomes the low byte of OPND with the high byte 0, the second becomes the high
byte with the low byte unchanged, OV is 1 after it (the spec's decision D5), REM is one less, and the status is
InstructionComplete when REM reaches 0 and AwaitingSecondOperandByte otherwise. -/
def Obligations.OperandByteIsFoldedNotDecoded : Prop :=
  ∀ (b : Byte) (s : State), s.Inv → ¬ s.AtBoundary →
    (decodeByte b s).dv = true ∧ (decodeByte b s).opc = s.opc ∧ (decodeByte b s).descriptor = s.descriptor ∧
    (decodeByte b s).ov = true ∧ (decodeByte b s).rem.val + 1 = s.rem.val ∧
    (s.status = .awaitingFirstOperandByte →
      loByte (decodeByte b s).opnd = b ∧ hiByte (decodeByte b s).opnd = 0) ∧
    (s.status = .awaitingSecondOperandByte →
      loByte (decodeByte b s).opnd = loByte s.opnd ∧ hiByte (decodeByte b s).opnd = b) ∧
    (decodeByte b s).status =
      (if (decodeByte b s).rem = 0 then .instructionComplete else .awaitingSecondOperandByte)

/-- status() by its four tests. States R106. -/
def Obligations.StatusIsAFunctionOfTheRegisters : Prop :=
  State.reset.status = .noInstruction ∧
  ∀ s : State,
    (s.dv = false → s.status = .noInstruction) ∧
    (s.dv = true → s.rem = 0 → s.status = .instructionComplete) ∧
    ∀ m md, rom s.opc = some (m, md) → s.dv = true → s.rem ≠ 0 →
      (s.rem = md.count → s.status = .awaitingFirstOperandByte) ∧
      (s.rem ≠ md.count → s.status = .awaitingSecondOperandByte)

/-- Every instruction passes through its statuses in order and skips none. Derived from 40_decoder_operations.md R107,
30_encoding.md R60. -/
def Obligations.StatusSequenceOfEveryInstruction : Prop :=
  ∀ (i : Instr) (s : State), s.AtBoundary → statusTrace (encode i) s = expectedTrace (encode i).length

/-- CNT counts every byte given to the block, modulo 2^32. Derived from 10_state.md R24, 40_decoder_operations.md R113,
60_exceptions.md R310, 92_eei_decisions.md D2. The width and the wrap are the spec's decision D2. -/
def Obligations.EveryByteIsCounted : Prop :=
  (∀ (bs : List Byte) (s : State), (present bs s).cnt.toNat = (s.cnt.toNat + bs.length) % 2 ^ 32) ∧
  (∀ bs : List Byte, bs.length < 2 ^ 32 → (present bs State.reset).totalBytes.toNat = bs.length)

/-- The fresh decoder satisfies the register invariant. Derived from 10_state.md R26, 10_state.md R22. -/
def Obligations.RegisterInvariantHoldsAtReset : Prop :=
  State.reset.Inv

/-- Every step from a state of the register invariant leads to one. Derived from 10_state.md R25, 10_state.md R26,
10_state.md R22. -/
def Obligations.EveryStepKeepsTheRegisterInvariant : Prop :=
  ∀ s t : State, s.Inv → step s = .next t → t.Inv

/-- Every state reachable from reset by transactions satisfies R26. Derived from 10_state.md R25, 10_state.md R26. -/
def Obligations.EveryReachableStateSatisfiesTheInvariant : Prop :=
  ∀ bs : List Byte, (present bs State.reset).Inv ∧
    ((present bs State.reset).rem ≠ 0 → (present bs State.reset).descriptor.isSome = true)

/-- A fresh decoder: every register and every output. Derived from 10_state.md R35, 70_reset_and_hazards.md R330,
70_reset_and_hazards.md R331, 92_eei_decisions.md D13. At reset DV, OV, REM and CNT are 0, OPC is 0x00 and OPND is
0x0000 (these two by the spec's decision D13); the status is NoInstruction, every optional output is absent and
totalBytes is 0. The empty feed list is the model's own (log entry 1). -/
def Obligations.ResetRegistersAndOutputs : Prop :=
  State.reset = { dv := false, opc := 0x00, ov := false, opnd := 0x0000, rem := 0, cnt := 0, input := [] } ∧
  State.reset.status = .noInstruction ∧ State.reset.descriptor = none ∧ State.reset.mnemonic = none ∧
  State.reset.addressingMode = none ∧ State.reset.opcodeByte = none ∧ State.reset.operand = none ∧
  State.reset.mnemonicText = none ∧ State.reset.render = none ∧ State.reset.totalBytes = 0

/-- descriptor, mnemonic, mode, opcode byte, text and count accessors. Derived from 40_decoder_operations.md R108,
40_decoder_operations.md R109, 40_decoder_operations.md R110, 40_decoder_operations.md R111, 40_decoder_operations.md
R113, 40_decoder_operations.md R114. -/
def Obligations.AccessorsReadTheDescriptor : Prop :=
  ∀ s : State, s.totalBytes = s.cnt ∧
    (s.dv = false → s.descriptor = none ∧ s.mnemonic = none ∧ s.addressingMode = none ∧ s.opcodeByte = none ∧
      s.mnemonicText = none) ∧
    (∀ m md, s.dv = true → rom s.opc = some (m, md) →
      s.descriptor = some ⟨s.opc, m, md, m.text, md.count⟩ ∧ s.mnemonic = some m ∧ s.addressingMode = some md ∧
      s.opcodeByte = some s.opc ∧ s.mnemonicText = some m.text) ∧
    (s.Inv → (s.descriptor = none ↔ s.status = .noInstruction))

/-- operand() is absent and present exactly as the status and the count say. Derived from 40_decoder_operations.md R112,
20_memory.md R45, 92_eei_decisions.md D5. In every state of the invariant operand() is none in NoInstruction, in
AwaitingFirstOperandByte (the spec's decision D5), and in InstructionComplete when the expected count is 0; it is OPND
in AwaitingSecondOperandByte, where only the low byte is there, and in InstructionComplete with a nonzero count. -/
def Obligations.OperandIsPresentByStatus : Prop :=
  ∀ s : State, s.Inv →
    (s.status = .noInstruction → s.operand = none) ∧
    (s.status = .awaitingFirstOperandByte → s.operand = none) ∧
    (s.status = .instructionComplete → s.expectedCount = 0 → s.operand = none) ∧
    (s.status = .instructionComplete → s.expectedCount ≠ 0 → s.operand = some s.opnd) ∧
    (s.status = .awaitingSecondOperandByte → s.operand = some s.opnd ∧ s.opnd = (loByte s.opnd).setWidth 16)

/-- render() by its conditions: no descriptor, operand presence against the expected count, else the wrapped text. States
R130. -/
def Obligations.RenderFailsExactlyOnItsConditions : Prop :=
  ∀ s : State, (s.dv = false → s.render = none) ∧
    ∀ m md, s.dv = true → rom s.opc = some (m, md) →
      (s.ov = true → md.count = 0 → s.render = none) ∧
      (s.ov = false → md.count ≠ 0 → s.render = none) ∧
      (s.ov = true → md.count ≠ 0 → s.render = some (wrap md (hex (s.display md)))) ∧
      (s.ov = false → md.count = 0 → s.render = some (wrap md []))

/-- What render() returns in each status. Derived from 41_renderer.md R134, 41_renderer.md R135, 90_conflicts.md C1. -/
def Obligations.RenderByStatus : Prop :=
  ∀ s : State, s.Inv →
    (s.status = .noInstruction → s.render = none) ∧
    (s.status = .awaitingFirstOperandByte → s.render = none) ∧
    ∀ md, s.addressingMode = some md →
      (s.status = .awaitingSecondOperandByte →
        s.render = some (wrap md (hex ((loByte s.opnd).setWidth 32)))) ∧
      (s.status = .instructionComplete → md.count = 0 → s.render = some (wrap md [])) ∧
      (s.status = .instructionComplete → md.count ≠ 0 → s.render = some (wrap md (hex (s.display md))))

/-- hex(v): uppercase digits of exactly the value, in the least number of byte groups, after a dollar sign. States R132. -/
def Obligations.HexTextIsTheValueInByteGroups : Prop :=
  (∀ v : Count, ∃ (digits : Text) (n : Nat),
    hex v = '$' :: digits ∧ digitsValue digits = some v.toNat ∧ digits.length = 2 * n ∧
    1 ≤ n ∧ n ≤ 4 ∧ v.toNat < 2 ^ (8 * n) ∧ ∀ k, 1 ≤ k → v.toNat < 2 ^ (8 * k) → n ≤ k) ∧
  ∀ (s : State) (md : Mode) (t : Text), s.ov = false → s.addressingMode = some md → s.render = some t → t = wrap md []

/-- wrap(md, h): the operand syntax of all 16 modes. Derived from 41_renderer.md R133, 92_eei_decisions.md D12. The spaces
are the spec's decision D12. -/
def Obligations.OperandSyntaxOfEachMode : Prop :=
  ∀ h : Text,
    (∀ md ∈ ([.abs, .zp, .stk, .imp, .rel] : List Mode), wrap md h = bare h) ∧
    (∀ md ∈ ([.absXInd, .zpXInd] : List Mode), wrap md h = inParensX h) ∧
    (∀ md ∈ ([.absX, .zpX] : List Mode), wrap md h = commaX h) ∧
    (∀ md ∈ ([.absY, .zpY] : List Mode), wrap md h = commaY h) ∧
    (∀ md ∈ ([.absInd, .zpInd] : List Mode), wrap md h = inParens h) ∧
    wrap .imm h = hashed h ∧ wrap .acc h = h ++ [' ', 'A'] ∧ wrap .zpIndY h = inParensY h

/-- A rendered text has at most 10 characters and a mnemonic text has 3 or 4. Derived from 41_renderer.md R133,
40_decoder_operations.md R101, 30_encoding.md R64. -/
def Obligations.TextsFitTheirPorts : Prop :=
  ∀ (s : State) (t : Text),
    (s.render = some t → t.length ≤ 10) ∧ (s.mnemonicText = some t → t.length = 3 ∨ t.length = 4)

/-- The display value: CNT plus the signed offset for REL, modulo 2^32, the operand itself otherwise. Derived from
41_renderer.md R131, 41_renderer.md R137, 30_encoding.md R63, 92_eei_decisions.md D2, 92_eei_decisions.md D3. The
width and the wrap are the spec's decisions D2 and D3. -/
def Obligations.RelativeTargetArithmetic : Prop :=
  ∀ s : State,
    ((s.display .rel).toNat : Int) = ((s.cnt.toNat : Int) + (loByte s.opnd).toInt) % 2 ^ 32 ∧
    ((s.cnt.toNat : Int) + (loByte s.opnd).toInt < 0 →
      ((s.display .rel).toNat : Int) = (s.cnt.toNat : Int) + (loByte s.opnd).toInt + 2 ^ 32) ∧
    ∀ md, md ≠ .rel → (s.display md).toNat = s.opnd.toNat

/-- The nine branches: base + display(REL) modulo 2^16 is the next instruction's address plus the signed offset. Derived
from 41_renderer.md R138, 41_renderer.md R131, 90_conflicts.md C4, 93_implementation_defined.md G10. For each of the
nine branch mnemonics of 45_control.md, from any instruction boundary: the instruction completes, equal to the
transactions of its two bytes, in mode REL with CNT two more; render() is the hex text of display(REL); and for any
base, base + display(REL) modulo 2^16 is base plus that CNT (the address of the next instruction of a stream loaded at
base, DEDUCED by the spec in R138) plus the sign-extended offset byte. That this sum is the processor's branch target
is the spec's own inference in R138, and rests on the 6502 branch rule, which is general knowledge (G10) and is not
modelled: the block itself adds no base. BBR0 to BBR7 and BBS0 to BBS7 are not among the nine: their operand byte is a
zero-page address (C4). -/
def Obligations.TargetPlusBaseIsTheBranchTarget : Prop :=
  (∀ f ∈ branchForms, ∀ (b1 : Byte) (s : State) (base : Count), s.AtBoundary →
    ∃ t, exec (f.2 b1) s = .next t ∧ t = present [f.1, b1] s ∧
      t.status = .instructionComplete ∧ t.addressingMode = some .rel ∧ t.cnt = s.cnt + 2 ∧
      t.render = some (hex (t.display .rel)) ∧
      (base + t.display .rel).setWidth 16 = (base + (s.cnt + 2)).setWidth 16 + b1.signExtend 16) ∧
  ∀ (s : State) (base : Count),
    (base + s.display .rel).setWidth 16 = (base + s.cnt).setWidth 16 + (loByte s.opnd).signExtend 16

/-- An absolute operand below 0x100 renders like a zero-page operand. Derived from 41_renderer.md R136, 41_renderer.md
R132. -/
def Obligations.DigitCountFollowsTheValue : Prop :=
  ∀ (oAbs oZp b1 : Byte) (s t : State), classifyAddressingMode oAbs = some .abs → classifyAddressingMode oZp = some .zp →
    s.AtBoundary → t.AtBoundary →
    (present [oAbs, b1, 0] s).render = (present [oZp, b1] t).render ∧
    (present [oAbs, b1, 0] s).addressingMode = some .abs ∧ (present [oZp, b1] t).addressingMode = some .zp

/-- No transaction, instruction or step stops, faults or is refused. States R300. -/
def Obligations.NothingStopsTheBlock : Prop :=
  (∀ s : State, ∃ t, step s = .next t) ∧ (∀ (i : Instr) (s : State), ∃ t, exec i s = .next t)

/-- A step, which takes one feed by the model's choice (log entry 1), equals the decode transactions of its bytes. Derived
from 40_decoder_operations.md R117, 40_decoder_operations.md R102, 92_eei_decisions.md D19. That a step takes the
oldest feed whole is the model's choice, not the spec's (DESIGN CHOICE, log entry 1), and R117, R102 and D19 give what
each byte of it does, one transaction a byte. -/
def Obligations.StepIsTheTransactionsOfItsFeed : Prop :=
  ∀ (s : State) (feed : List Byte) (rest : List (List Byte)), s.input = feed :: rest →
    step s = .next (present feed { s with input := rest })

/-- With no further bytes the block keeps its state indefinitely. States R116. -/
def Obligations.ParkedWithoutInput : Prop :=
  (∀ (k : Nat) (s : State), s.input = [] → Host.Core.run core k s = .next s) ∧
  (∀ (b : Byte) (s : State), State.clockPorts ⟨b, false⟩ s = s)

/-- By the model's choice (log entry 1), a step whose feed begins with an instruction runs exec of it, then the rest.
Derived from 40_decoder_operations.md R102, 40_decoder_operations.md R117. That a step at a boundary runs exec of the
first instruction of its feed and then presents the rest is the model's choice, not the spec's (DESIGN CHOICE, log
entry 1): R102 and R117 give the transactions of the bytes and say nothing of steps, feeds or exec. -/
def Obligations.StepRunsTheDecodedInstruction : Prop :=
  ∀ (s t : State) (feed more : List Byte) (rest : List (List Byte)) (i : Instr),
    s.AtBoundary → s.input = feed :: rest → decode feed = .ok (i, more) →
    (exec i { s with input := rest } = .next t → step s = .next (present more t)) ∧
    (more = [] → step s = exec i { s with input := rest })

/-- Presenting bytes in one feed or in two, the feeds being the model's choice (log entry 1), makes no difference. Derived
from 40_decoder_operations.md R117, 90_conflicts.md C3, 92_eei_decisions.md D19. Feeds, and one step a feed, are the
model's choice, not the spec's (DESIGN CHOICE, log entry 1): R117, C3 and D19 speak of one byte a transaction only. -/
def Obligations.SplittingAFeedChangesNothing : Prop :=
  ∀ (s : State) (a b : List Byte) (rest : List (List Byte)),
    Host.Core.run core 2 { s with input := a :: b :: rest } = Host.Core.run core 1 { s with input := (a ++ b) :: rest }

/-- exec of every instruction, in every state, is the decode of its encoded bytes. Derived from 40_decoder_operations.md
R102, 30_encoding.md R60, 30_encoding.md R69. -/
def Obligations.MeaningIsTheTransactionsOfTheEncoding : Prop :=
  ∀ (i : Instr) (s : State), exec i s = .next (present (encode i) s)

/-- Once a new instruction begins, nothing of the previous one can be read. States R334. -/
def Obligations.NextInstructionOverwritesThePrevious : Prop :=
  ∀ (s t : State) (b : Byte) (bs : List Byte), s.AtBoundary → t.AtBoundary → s.cnt = t.cnt →
    (present (b :: bs) s).ports = (present (b :: bs) t).ports

/-- OPC while DV = 0 and OPND while OV = 0 show in no output. Derived from 10_state.md R22, 10_state.md R35,
93_implementation_defined.md U9, 92_eei_decisions.md D13. -/
def Obligations.AbsentRegistersAreNotObservable : Prop :=
  (∀ (s : State) (x : Byte) (bs : List Byte), s.Inv → s.dv = false →
    (present bs { s with opc := x }).ports = (present bs s).ports) ∧
  (∀ (s : State) (x : Operand), s.ov = false → State.ports { s with opnd := x } = s.ports)

/-- UnrecognizedOpcode happens exactly at a boundary with no match, and shows exactly as status NoInstruction. Derived
from 60_exceptions.md R301, 60_exceptions.md R302, 60_exceptions.md R305. -/
def Obligations.UnrecognizedOpcodeShowsAsNoInstruction : Prop :=
  ∀ (b : Byte) (s : State), s.Inv →
    (decodeOutcome b s = some .unrecognizedOpcode ↔ s.AtBoundary ∧ rom b = none) ∧
    (decodeOutcome b s = some .unrecognizedOpcode ↔ (decodeByte b s).status = .noInstruction) ∧
    (transactionKind b s = .operandByte ↔ ¬ s.AtBoundary)

/-- The ports: status code, valid bits, ids, counts and texts. Derived from 40_decoder_operations.md R101, 10_state.md
R36, 92_eei_decisions.md D11, 92_eei_decisions.md D15. Ports and codes are the spec's decisions D1, D11 and D15. -/
def Obligations.PortsCarryTheOutputs : Prop :=
  ([.noInstruction, .awaitingFirstOperandByte, .awaitingSecondOperandByte, .instructionComplete] : List Status).map Status.code = [0, 1, 2, 3] ∧
  ∀ s : State, s.ports.status = s.status.code ∧ s.ports.descValid = s.dv ∧ s.ports.operandValid = s.ov ∧
    s.ports.byteCount = s.cnt ∧ s.ports.renderText = s.render ∧
    s.ports.operand = (if s.ov = true then some s.opnd else none) ∧
    (s.dv = false → s.ports.descOpcode = none ∧ s.ports.descMnemonic = none ∧ s.ports.descMode = none ∧
      s.ports.descCount = none ∧ s.ports.mnemText = none) ∧
    ∀ m md, s.dv = true → rom s.opc = some (m, md) →
      s.ports.descOpcode = some s.opc ∧ s.ports.descMnemonic = some m.id ∧ s.ports.descMode = some md.id ∧
      s.ports.descCount = some (BitVec.ofNat 2 md.count.val) ∧ s.ports.mnemText = some m.text

/-- A stream of whole instructions decodes instruction by instruction, with the bytes of each. Derived from
70_reset_and_hazards.md R333, 30_encoding.md R60, 40_decoder_operations.md R102. -/
def Obligations.InstructionStreamDecodesInOrder : Prop :=
  ∀ (is : List Instr) (s : State), s.AtBoundary →
    (present (is.flatMap encode) s).AtBoundary ∧
    (present (is.flatMap encode) s).cnt = s.cnt + BitVec.ofNat 32 (is.flatMap encode).length ∧
    (is ≠ [] → (present (is.flatMap encode) s).status = .instructionComplete) ∧
    ∀ (i : Instr), exec i (present (is.flatMap encode) s) = .next (present ((is ++ [i]).flatMap encode) s) ∧
      decode ((i :: is).flatMap encode) = .ok (i, is.flatMap encode)

/-- ORA, AND, EOR, ADC, STA, LDA, CMP, SBC: every opcode decodes, completes and renders as its rule says. States R200,
R201, R202, R203, R204, R205, R206, R207. -/
def Obligations.AluGroupForms : Prop :=
  MnemonicRule .ora 51 ['O', 'R', 'A']
    []
    [(0x01, .zpXInd, .oraZpXInd, ofByte inParensX),
     (0x05, .zp, .oraZp, ofByte bare),
     (0x09, .imm, .oraImm, ofByte hashed),
     (0x11, .zpIndY, .oraZpIndY, ofByte inParensY),
     (0x12, .zpInd, .oraZpInd, ofByte inParens),
     (0x15, .zpX, .oraZpX, ofByte commaX)]
    [(0x0D, .abs, .oraAbs, bare),
     (0x19, .absY, .oraAbsY, commaY),
     (0x1D, .absX, .oraAbsX, commaX)] ∧
  MnemonicRule .and 1 ['A', 'N', 'D']
    []
    [(0x21, .zpXInd, .andZpXInd, ofByte inParensX),
     (0x25, .zp, .andZp, ofByte bare),
     (0x29, .imm, .andImm, ofByte hashed),
     (0x31, .zpIndY, .andZpIndY, ofByte inParensY),
     (0x32, .zpInd, .andZpInd, ofByte inParens),
     (0x35, .zpX, .andZpX, ofByte commaX)]
    [(0x2D, .abs, .andAbs, bare),
     (0x39, .absY, .andAbsY, commaY),
     (0x3D, .absX, .andAbsX, commaX)] ∧
  MnemonicRule .eor 40 ['E', 'O', 'R']
    []
    [(0x41, .zpXInd, .eorZpXInd, ofByte inParensX),
     (0x45, .zp, .eorZp, ofByte bare),
     (0x49, .imm, .eorImm, ofByte hashed),
     (0x51, .zpIndY, .eorZpIndY, ofByte inParensY),
     (0x52, .zpInd, .eorZpInd, ofByte inParens),
     (0x55, .zpX, .eorZpX, ofByte commaX)]
    [(0x4D, .abs, .eorAbs, bare),
     (0x59, .absY, .eorAbsY, commaY),
     (0x5D, .absX, .eorAbsX, commaX)] ∧
  MnemonicRule .adc 0 ['A', 'D', 'C']
    []
    [(0x61, .zpXInd, .adcZpXInd, ofByte inParensX),
     (0x65, .zp, .adcZp, ofByte bare),
     (0x69, .imm, .adcImm, ofByte hashed),
     (0x71, .zpIndY, .adcZpIndY, ofByte inParensY),
     (0x72, .zpInd, .adcZpInd, ofByte inParens),
     (0x75, .zpX, .adcZpX, ofByte commaX)]
    [(0x6D, .abs, .adcAbs, bare),
     (0x79, .absY, .adcAbsY, commaY),
     (0x7D, .absX, .adcAbsX, commaX)] ∧
  MnemonicRule .sta 84 ['S', 'T', 'A']
    []
    [(0x81, .zpXInd, .staZpXInd, ofByte inParensX),
     (0x85, .zp, .staZp, ofByte bare),
     (0x91, .zpIndY, .staZpIndY, ofByte inParensY),
     (0x92, .zpInd, .staZpInd, ofByte inParens),
     (0x95, .zpX, .staZpX, ofByte commaX)]
    [(0x8D, .abs, .staAbs, bare),
     (0x99, .absY, .staAbsY, commaY),
     (0x9D, .absX, .staAbsX, commaX)] ∧
  MnemonicRule .lda 46 ['L', 'D', 'A']
    []
    [(0xA1, .zpXInd, .ldaZpXInd, ofByte inParensX),
     (0xA5, .zp, .ldaZp, ofByte bare),
     (0xA9, .imm, .ldaImm, ofByte hashed),
     (0xB1, .zpIndY, .ldaZpIndY, ofByte inParensY),
     (0xB2, .zpInd, .ldaZpInd, ofByte inParens),
     (0xB5, .zpX, .ldaZpX, ofByte commaX)]
    [(0xAD, .abs, .ldaAbs, bare),
     (0xB9, .absY, .ldaAbsY, commaY),
     (0xBD, .absX, .ldaAbsX, commaX)] ∧
  MnemonicRule .cmp 34 ['C', 'M', 'P']
    []
    [(0xC1, .zpXInd, .cmpZpXInd, ofByte inParensX),
     (0xC5, .zp, .cmpZp, ofByte bare),
     (0xC9, .imm, .cmpImm, ofByte hashed),
     (0xD1, .zpIndY, .cmpZpIndY, ofByte inParensY),
     (0xD2, .zpInd, .cmpZpInd, ofByte inParens),
     (0xD5, .zpX, .cmpZpX, ofByte commaX)]
    [(0xCD, .abs, .cmpAbs, bare),
     (0xD9, .absY, .cmpAbsY, commaY),
     (0xDD, .absX, .cmpAbsX, commaX)] ∧
  MnemonicRule .sbc 72 ['S', 'B', 'C']
    []
    [(0xE1, .zpXInd, .sbcZpXInd, ofByte inParensX),
     (0xE5, .zp, .sbcZp, ofByte bare),
     (0xE9, .imm, .sbcImm, ofByte hashed),
     (0xF1, .zpIndY, .sbcZpIndY, ofByte inParensY),
     (0xF2, .zpInd, .sbcZpInd, ofByte inParens),
     (0xF5, .zpX, .sbcZpX, ofByte commaX)]
    [(0xED, .abs, .sbcAbs, bare),
     (0xF9, .absY, .sbcAbsY, commaY),
     (0xFD, .absX, .sbcAbsX, commaX)]

/-- ASL, ROL, LSR, ROR, INC, DEC: every opcode decodes, completes and renders as its rule says. States R208, R209, R210,
R211, R212, R213. -/
def Obligations.ShiftIncrementDecrementForms : Prop :=
  MnemonicRule .asl 2 ['A', 'S', 'L']
    [(0x0A, .acc, .aslAcc, [' ', 'A'])]
    [(0x06, .zp, .aslZp, ofByte bare),
     (0x16, .zpX, .aslZpX, ofByte commaX)]
    [(0x0E, .abs, .aslAbs, bare),
     (0x1E, .absX, .aslAbsX, commaX)] ∧
  MnemonicRule .rol 68 ['R', 'O', 'L']
    [(0x2A, .acc, .rolAcc, [' ', 'A'])]
    [(0x26, .zp, .rolZp, ofByte bare),
     (0x36, .zpX, .rolZpX, ofByte commaX)]
    [(0x2E, .abs, .rolAbs, bare),
     (0x3E, .absX, .rolAbsX, commaX)] ∧
  MnemonicRule .lsr 49 ['L', 'S', 'R']
    [(0x4A, .acc, .lsrAcc, [' ', 'A'])]
    [(0x46, .zp, .lsrZp, ofByte bare),
     (0x56, .zpX, .lsrZpX, ofByte commaX)]
    [(0x4E, .abs, .lsrAbs, bare),
     (0x5E, .absX, .lsrAbsX, commaX)] ∧
  MnemonicRule .ror 69 ['R', 'O', 'R']
    [(0x6A, .acc, .rorAcc, [' ', 'A'])]
    [(0x66, .zp, .rorZp, ofByte bare),
     (0x76, .zpX, .rorZpX, ofByte commaX)]
    [(0x6E, .abs, .rorAbs, bare),
     (0x7E, .absX, .rorAbsX, commaX)] ∧
  MnemonicRule .inc 41 ['I', 'N', 'C']
    [(0x1A, .acc, .incAcc, [' ', 'A'])]
    [(0xE6, .zp, .incZp, ofByte bare),
     (0xF6, .zpX, .incZpX, ofByte commaX)]
    [(0xEE, .abs, .incAbs, bare),
     (0xFE, .absX, .incAbsX, commaX)] ∧
  MnemonicRule .dec 37 ['D', 'E', 'C']
    [(0x3A, .acc, .decAcc, [' ', 'A'])]
    [(0xC6, .zp, .decZp, ofByte bare),
     (0xD6, .zpX, .decZpX, ofByte commaX)]
    [(0xCE, .abs, .decAbs, bare),
     (0xDE, .absX, .decAbsX, commaX)]

/-- BIT, TSB, TRB, STZ, LDX, LDY, STX, STY, CPX, CPY: every opcode decodes, completes and renders as its rule says. States
R214, R215, R216, R217, R218, R219, R220, R221, R222, R223. -/
def Obligations.IndexAndBitTestForms : Prop :=
  MnemonicRule .bit 22 ['B', 'I', 'T']
    []
    [(0x24, .zp, .bitZp, ofByte bare),
     (0x34, .zpX, .bitZpX, ofByte commaX),
     (0x89, .imm, .bitImm, ofByte hashed)]
    [(0x2C, .abs, .bitAbs, bare),
     (0x3C, .absX, .bitAbsX, commaX)] ∧
  MnemonicRule .tsb 92 ['T', 'S', 'B']
    []
    [(0x04, .zp, .tsbZp, ofByte bare)]
    [(0x0C, .abs, .tsbAbs, bare)] ∧
  MnemonicRule .trb 91 ['T', 'R', 'B']
    []
    [(0x14, .zp, .trbZp, ofByte bare)]
    [(0x1C, .abs, .trbAbs, bare)] ∧
  MnemonicRule .stz 88 ['S', 'T', 'Z']
    []
    [(0x64, .zp, .stzZp, ofByte bare),
     (0x74, .zpX, .stzZpX, ofByte commaX)]
    [(0x9C, .abs, .stzAbs, bare),
     (0x9E, .absX, .stzAbsX, commaX)] ∧
  MnemonicRule .ldx 47 ['L', 'D', 'X']
    []
    [(0xA2, .imm, .ldxImm, ofByte hashed),
     (0xA6, .zp, .ldxZp, ofByte bare),
     (0xB6, .zpY, .ldxZpY, ofByte commaY)]
    [(0xAE, .abs, .ldxAbs, bare),
     (0xBE, .absY, .ldxAbsY, commaY)] ∧
  MnemonicRule .ldy 48 ['L', 'D', 'Y']
    []
    [(0xA0, .imm, .ldyImm, ofByte hashed),
     (0xA4, .zp, .ldyZp, ofByte bare),
     (0xB4, .zpX, .ldyZpX, ofByte commaX)]
    [(0xAC, .abs, .ldyAbs, bare),
     (0xBC, .absX, .ldyAbsX, commaX)] ∧
  MnemonicRule .stx 86 ['S', 'T', 'X']
    []
    [(0x86, .zp, .stxZp, ofByte bare),
     (0x96, .zpY, .stxZpY, ofByte commaY)]
    [(0x8E, .abs, .stxAbs, bare)] ∧
  MnemonicRule .sty 87 ['S', 'T', 'Y']
    []
    [(0x84, .zp, .styZp, ofByte bare),
     (0x94, .zpX, .styZpX, ofByte commaX)]
    [(0x8C, .abs, .styAbs, bare)] ∧
  MnemonicRule .cpx 35 ['C', 'P', 'X']
    []
    [(0xE0, .imm, .cpxImm, ofByte hashed),
     (0xE4, .zp, .cpxZp, ofByte bare)]
    [(0xEC, .abs, .cpxAbs, bare)] ∧
  MnemonicRule .cpy 36 ['C', 'P', 'Y']
    []
    [(0xC0, .imm, .cpyImm, ofByte hashed),
     (0xC4, .zp, .cpyZp, ofByte bare)]
    [(0xCC, .abs, .cpyAbs, bare)]

/-- BPL, BMI, BVC, BVS, BCC, BCS, BNE, BEQ, BRA: every opcode decodes, completes and renders as its rule says. States
R224, R225, R226, R227, R228, R229, R230, R231, R232. -/
def Obligations.BranchForms : Prop :=
  MnemonicRule .bpl 25 ['B', 'P', 'L']
    []
    [(0x10, .rel, .bpl, target)]
    [] ∧
  MnemonicRule .bmi 23 ['B', 'M', 'I']
    []
    [(0x30, .rel, .bmi, target)]
    [] ∧
  MnemonicRule .bvc 28 ['B', 'V', 'C']
    []
    [(0x50, .rel, .bvc, target)]
    [] ∧
  MnemonicRule .bvs 29 ['B', 'V', 'S']
    []
    [(0x70, .rel, .bvs, target)]
    [] ∧
  MnemonicRule .bcc 19 ['B', 'C', 'C']
    []
    [(0x90, .rel, .bcc, target)]
    [] ∧
  MnemonicRule .bcs 20 ['B', 'C', 'S']
    []
    [(0xB0, .rel, .bcs, target)]
    [] ∧
  MnemonicRule .bne 24 ['B', 'N', 'E']
    []
    [(0xD0, .rel, .bne, target)]
    [] ∧
  MnemonicRule .beq 21 ['B', 'E', 'Q']
    []
    [(0xF0, .rel, .beq, target)]
    [] ∧
  MnemonicRule .bra 26 ['B', 'R', 'A']
    []
    [(0x80, .rel, .bra, target)]
    []

/-- JMP, JSR, BRK, RTI, RTS: every opcode decodes, completes and renders as its rule says. States R233, R234, R235, R236,
R237. -/
def Obligations.JumpAndReturnForms : Prop :=
  MnemonicRule .jmp 44 ['J', 'M', 'P']
    []
    []
    [(0x4C, .abs, .jmpAbs, bare),
     (0x6C, .absInd, .jmpAbsInd, inParens),
     (0x7C, .absXInd, .jmpAbsXInd, inParensX)] ∧
  MnemonicRule .jsr 45 ['J', 'S', 'R']
    []
    []
    [(0x20, .abs, .jsr, bare)] ∧
  MnemonicRule .brk 27 ['B', 'R', 'K'] [(0x00, .stk, .brk, [])] [] [] ∧
  MnemonicRule .rti 70 ['R', 'T', 'I'] [(0x40, .stk, .rti, [])] [] [] ∧
  MnemonicRule .rts 71 ['R', 'T', 'S'] [(0x60, .stk, .rts, [])] [] []

/-- CLC, SEC, CLI, SEI, CLV, CLD, SED: every opcode decodes, completes and renders as its rule says. States R238, R239,
R240, R241, R242, R243, R244. -/
def Obligations.FlagInstructionForms : Prop :=
  MnemonicRule .clc 30 ['C', 'L', 'C'] [(0x18, .imp, .clc, [])] [] [] ∧
  MnemonicRule .sec 73 ['S', 'E', 'C'] [(0x38, .imp, .sec, [])] [] [] ∧
  MnemonicRule .cli 32 ['C', 'L', 'I'] [(0x58, .imp, .cli, [])] [] [] ∧
  MnemonicRule .sei 75 ['S', 'E', 'I'] [(0x78, .imp, .sei, [])] [] [] ∧
  MnemonicRule .clv 33 ['C', 'L', 'V'] [(0xB8, .imp, .clv, [])] [] [] ∧
  MnemonicRule .cld 31 ['C', 'L', 'D'] [(0xD8, .imp, .cld, [])] [] [] ∧
  MnemonicRule .sed 74 ['S', 'E', 'D'] [(0xF8, .imp, .sed, [])] [] []

/-- DEX, DEY, INX, INY, TAX, TAY, TXA, TYA, TSX, TXS: every opcode decodes, completes and renders as its rule says. States
R245, R246, R247, R248, R249, R250, R251, R252, R253, R254. -/
def Obligations.IndexAndTransferForms : Prop :=
  MnemonicRule .dex 38 ['D', 'E', 'X'] [(0xCA, .imp, .dex, [])] [] [] ∧
  MnemonicRule .dey 39 ['D', 'E', 'Y'] [(0x88, .imp, .dey, [])] [] [] ∧
  MnemonicRule .inx 42 ['I', 'N', 'X'] [(0xE8, .imp, .inx, [])] [] [] ∧
  MnemonicRule .iny 43 ['I', 'N', 'Y'] [(0xC8, .imp, .iny, [])] [] [] ∧
  MnemonicRule .tax 89 ['T', 'A', 'X'] [(0xAA, .imp, .tax, [])] [] [] ∧
  MnemonicRule .tay 90 ['T', 'A', 'Y'] [(0xA8, .imp, .tay, [])] [] [] ∧
  MnemonicRule .txa 94 ['T', 'X', 'A'] [(0x8A, .imp, .txa, [])] [] [] ∧
  MnemonicRule .tya 96 ['T', 'Y', 'A'] [(0x98, .imp, .tya, [])] [] [] ∧
  MnemonicRule .tsx 93 ['T', 'S', 'X'] [(0xBA, .imp, .tsx, [])] [] [] ∧
  MnemonicRule .txs 95 ['T', 'X', 'S'] [(0x9A, .imp, .txs, [])] [] []

/-- NOP, WAI, STP: every opcode decodes, completes and renders as its rule says. States R255, R256, R257. -/
def Obligations.NopWaitStopForms : Prop :=
  MnemonicRule .nop 50 ['N', 'O', 'P'] [(0xEA, .imp, .nop, [])] [] [] ∧
  MnemonicRule .wai 97 ['W', 'A', 'I'] [(0xCB, .imp, .wai, [])] [] [] ∧
  MnemonicRule .stp 85 ['S', 'T', 'P'] [(0xDB, .imp, .stp, [])] [] []

/-- PHA, PHP, PLA, PLP, PHX, PHY, PLX, PLY: every opcode decodes, completes and renders as its rule says. States R258,
R259, R260, R261, R262, R263, R264, R265. -/
def Obligations.PushAndPullForms : Prop :=
  MnemonicRule .pha 52 ['P', 'H', 'A'] [(0x48, .stk, .pha, [])] [] [] ∧
  MnemonicRule .php 53 ['P', 'H', 'P'] [(0x08, .stk, .php, [])] [] [] ∧
  MnemonicRule .pla 56 ['P', 'L', 'A'] [(0x68, .stk, .pla, [])] [] [] ∧
  MnemonicRule .plp 57 ['P', 'L', 'P'] [(0x28, .stk, .plp, [])] [] [] ∧
  MnemonicRule .phx 54 ['P', 'H', 'X'] [(0xDA, .stk, .phx, [])] [] [] ∧
  MnemonicRule .phy 55 ['P', 'H', 'Y'] [(0x5A, .stk, .phy, [])] [] [] ∧
  MnemonicRule .plx 58 ['P', 'L', 'X'] [(0xFA, .stk, .plx, [])] [] [] ∧
  MnemonicRule .ply 59 ['P', 'L', 'Y'] [(0x7A, .stk, .ply, [])] [] []

/-- RMB0 to RMB7: every opcode decodes, completes and renders as its rule says. States R266, R267, R268, R269, R270, R271,
R272, R273. -/
def Obligations.ResetMemoryBitForms : Prop :=
  MnemonicRule .rmb0 60 ['R', 'M', 'B', '0']
    []
    [(0x07, .zp, .rmb0, ofByte bare)]
    [] ∧
  MnemonicRule .rmb1 61 ['R', 'M', 'B', '1']
    []
    [(0x17, .zp, .rmb1, ofByte bare)]
    [] ∧
  MnemonicRule .rmb2 62 ['R', 'M', 'B', '2']
    []
    [(0x27, .zp, .rmb2, ofByte bare)]
    [] ∧
  MnemonicRule .rmb3 63 ['R', 'M', 'B', '3']
    []
    [(0x37, .zp, .rmb3, ofByte bare)]
    [] ∧
  MnemonicRule .rmb4 64 ['R', 'M', 'B', '4']
    []
    [(0x47, .zp, .rmb4, ofByte bare)]
    [] ∧
  MnemonicRule .rmb5 65 ['R', 'M', 'B', '5']
    []
    [(0x57, .zp, .rmb5, ofByte bare)]
    [] ∧
  MnemonicRule .rmb6 66 ['R', 'M', 'B', '6']
    []
    [(0x67, .zp, .rmb6, ofByte bare)]
    [] ∧
  MnemonicRule .rmb7 67 ['R', 'M', 'B', '7']
    []
    [(0x77, .zp, .rmb7, ofByte bare)]
    []

/-- SMB0 to SMB7: every opcode decodes, completes and renders as its rule says. States R274, R275, R276, R277, R278, R279,
R280, R281. -/
def Obligations.SetMemoryBitForms : Prop :=
  MnemonicRule .smb0 76 ['S', 'M', 'B', '0']
    []
    [(0x87, .zp, .smb0, ofByte bare)]
    [] ∧
  MnemonicRule .smb1 77 ['S', 'M', 'B', '1']
    []
    [(0x97, .zp, .smb1, ofByte bare)]
    [] ∧
  MnemonicRule .smb2 78 ['S', 'M', 'B', '2']
    []
    [(0xA7, .zp, .smb2, ofByte bare)]
    [] ∧
  MnemonicRule .smb3 79 ['S', 'M', 'B', '3']
    []
    [(0xB7, .zp, .smb3, ofByte bare)]
    [] ∧
  MnemonicRule .smb4 80 ['S', 'M', 'B', '4']
    []
    [(0xC7, .zp, .smb4, ofByte bare)]
    [] ∧
  MnemonicRule .smb5 81 ['S', 'M', 'B', '5']
    []
    [(0xD7, .zp, .smb5, ofByte bare)]
    [] ∧
  MnemonicRule .smb6 82 ['S', 'M', 'B', '6']
    []
    [(0xE7, .zp, .smb6, ofByte bare)]
    [] ∧
  MnemonicRule .smb7 83 ['S', 'M', 'B', '7']
    []
    [(0xF7, .zp, .smb7, ofByte bare)]
    []

/-- BBR0 to BBR7: every opcode decodes, completes and renders as its rule says. Derived from R282, R283, R284, R285, R286,
R287, R288, R289, 30_encoding.md R73, 92_eei_decisions.md D6. The mode REL with one operand byte is the spec's
decision D6 (C4): the byte after it, the processor's third byte, starts the next instruction, so 0x34 there is BIT in
mode ZP_X awaiting its operand. -/
def Obligations.BranchOnBitResetForms : Prop :=
  MnemonicRule .bbr0 3 ['B', 'B', 'R', '0']
    []
    [(0x0F, .rel, .bbr0, target)]
    [] ∧
  MnemonicRule .bbr1 4 ['B', 'B', 'R', '1']
    []
    [(0x1F, .rel, .bbr1, target)]
    [] ∧
  MnemonicRule .bbr2 5 ['B', 'B', 'R', '2']
    []
    [(0x2F, .rel, .bbr2, target)]
    [] ∧
  MnemonicRule .bbr3 6 ['B', 'B', 'R', '3']
    []
    [(0x3F, .rel, .bbr3, target)]
    [] ∧
  MnemonicRule .bbr4 7 ['B', 'B', 'R', '4']
    []
    [(0x4F, .rel, .bbr4, target)]
    [] ∧
  MnemonicRule .bbr5 8 ['B', 'B', 'R', '5']
    []
    [(0x5F, .rel, .bbr5, target)]
    [] ∧
  MnemonicRule .bbr6 9 ['B', 'B', 'R', '6']
    []
    [(0x6F, .rel, .bbr6, target)]
    [] ∧
  MnemonicRule .bbr7 10 ['B', 'B', 'R', '7']
    []
    [(0x7F, .rel, .bbr7, target)]
    [] ∧
  (∀ o ∈ ([0x0F, 0x1F, 0x2F, 0x3F, 0x4F, 0x5F, 0x6F, 0x7F] : List Byte), ∀ (s : State) (b1 : Byte), s.AtBoundary →
    (present [o, b1, 0x34] s).status = .awaitingFirstOperandByte ∧
    (present [o, b1, 0x34] s).mnemonic = some .bit ∧ (present [o, b1, 0x34] s).addressingMode = some .zpX)

/-- BBS0 to BBS7: every opcode decodes, completes and renders as its rule says. Derived from R290, R291, R292, R293, R294,
R295, R296, R297, 30_encoding.md R73, 92_eei_decisions.md D6. The mode REL with one operand byte is the spec's
decision D6 (C4): the byte after it, the processor's third byte, starts the next instruction, so 0x34 there is BIT in
mode ZP_X awaiting its operand. -/
def Obligations.BranchOnBitSetForms : Prop :=
  MnemonicRule .bbs0 11 ['B', 'B', 'S', '0']
    []
    [(0x8F, .rel, .bbs0, target)]
    [] ∧
  MnemonicRule .bbs1 12 ['B', 'B', 'S', '1']
    []
    [(0x9F, .rel, .bbs1, target)]
    [] ∧
  MnemonicRule .bbs2 13 ['B', 'B', 'S', '2']
    []
    [(0xAF, .rel, .bbs2, target)]
    [] ∧
  MnemonicRule .bbs3 14 ['B', 'B', 'S', '3']
    []
    [(0xBF, .rel, .bbs3, target)]
    [] ∧
  MnemonicRule .bbs4 15 ['B', 'B', 'S', '4']
    []
    [(0xCF, .rel, .bbs4, target)]
    [] ∧
  MnemonicRule .bbs5 16 ['B', 'B', 'S', '5']
    []
    [(0xDF, .rel, .bbs5, target)]
    [] ∧
  MnemonicRule .bbs6 17 ['B', 'B', 'S', '6']
    []
    [(0xEF, .rel, .bbs6, target)]
    [] ∧
  MnemonicRule .bbs7 18 ['B', 'B', 'S', '7']
    []
    [(0xFF, .rel, .bbs7, target)]
    [] ∧
  (∀ o ∈ ([0x8F, 0x9F, 0xAF, 0xBF, 0xCF, 0xDF, 0xEF, 0xFF] : List Byte), ∀ (s : State) (b1 : Byte), s.AtBoundary →
    (present [o, b1, 0x34] s).status = .awaitingFirstOperandByte ∧
    (present [o, b1, 0x34] s).mnemonic = some .bit ∧ (present [o, b1, 0x34] s).addressingMode = some .zpX)

/-- After an opcode byte no operand is present, whatever operand count its mode has. Derived from 40_decoder_operations.md
R102, 40_decoder_operations.md R112, 41_renderer.md R134, 92_eei_decisions.md D5. For the counts 1 and 2 this absence
is the spec's decision D5, a parameter the model takes at its default (DEDUCED, log entry 3). -/
def Obligations.OpcodeByteLeavesTheOperandAbsent : Prop :=
  ∀ (b : Byte) (d : Descriptor) (s : State), s.AtBoundary → resolve b = some d →
    (decodeByte b s).ov = false ∧ (decodeByte b s).opnd = 0 ∧ (decodeByte b s).operand = none ∧
    (d.count ≠ 0 → (decodeByte b s).status = .awaitingFirstOperandByte ∧ (decodeByte b s).render = none)
end

