-- ==== Sys2Proof/Laws/Bytes.lean ====
section
/-! SUPPORT. The two bytes of an operand and the operand of two bytes. -/

namespace Sys2Proof

@[simp] theorem loByte_joinBytes (b2 b1 : Byte) : loByte (joinBytes b2 b1) = b1 := by
  ext i hi
  simp [loByte, joinBytes]

@[simp] theorem hiByte_joinBytes (b2 b1 : Byte) : hiByte (joinBytes b2 b1) = b2 := by
  ext i hi
  have h16 : 8 + i < 16 := by omega
  simp [hiByte, joinBytes, h16, BitVec.getLsbD_eq_getElem hi]

@[simp] theorem joinBytes_hiByte_loByte (v : Operand) : joinBytes (hiByte v) (loByte v) = v := by
  ext i hi
  by_cases h8 : i < 8
  · simp [hiByte, loByte, joinBytes, hi, h8]
  · have e : 8 + (i - 8) = i := by omega
    have h : i - 8 < 8 := by omega
    simp [hiByte, loByte, joinBytes, hi, h8, e, h]

@[simp] theorem loByte_zext16 (b : Byte) : loByte (zext16 b) = b := by
  ext i hi
  simp [loByte, zext16]

@[simp] theorem hiByte_zext16 (b : Byte) : hiByte (zext16 b) = 0 := by
  ext i hi
  simp [hiByte, zext16]

/-- The first fold of R105, into a cleared operand. -/
theorem fold_first (b1 : Byte) : (0 : Operand) ||| (zext16 b1 <<< (8 * 0)) = zext16 b1 := by simp

/-- The second fold of R105, over the first operand byte. -/
theorem fold_second (b2 b1 : Byte) : zext16 b1 ||| (zext16 b2 <<< (8 * 1)) = joinBytes b2 b1 := by
  simp [joinBytes, zext16, BitVec.or_comm]

end Sys2Proof
end

