-- ==== Sys2Proof/Laws/Decode.lean ====
section
/-! SUPPORT. What the decoder answers, by the entry of the first byte. -/

namespace Sys2Proof

theorem decode_of_noEntry {b : Byte} (h : DecodeTable.entry b = none) (bs : List Byte) :
    decode (b :: bs) = .error (.undefinedOpcode b) := by simp [decode, h]

theorem decode_of_op0 {b : Byte} {i : Instr} (h : DecodeTable.entry b = some (.op0 i)) (bs : List Byte) :
    decode (b :: bs) = .ok (i, bs) := by simp [decode, h]

theorem decode_of_op1 {b : Byte} {f : Byte → Instr} (h : DecodeTable.entry b = some (.op1 f)) (b1 : Byte)
    (rest : List Byte) : decode (b :: b1 :: rest) = .ok (f b1, rest) := by simp [decode, h]

theorem decode_of_op1_short {b : Byte} {f : Byte → Instr} (h : DecodeTable.entry b = some (.op1 f)) :
    decode [b] = .error (.missingOperand b) := by simp [decode, h]

theorem decode_of_op2 {b : Byte} {f : Operand → Instr} (h : DecodeTable.entry b = some (.op2 f)) (b1 b2 : Byte)
    (rest : List Byte) : decode (b :: b1 :: b2 :: rest) = .ok (f (joinBytes b2 b1), rest) := by simp [decode, h]

theorem decode_of_op2_short {b : Byte} {f : Operand → Instr} (h : DecodeTable.entry b = some (.op2 f)) {bs : List Byte}
    (hs : bs.length < 2) : decode (b :: bs) = .error (.missingOperand b) := by
  match bs, hs with
  | [], _ => simp [decode, h]
  | [_], _ => simp [decode, h]

end Sys2Proof
end

