-- ==== Sys2Proof/Laws/Operands.lean ====
section
/-! SUPPORT. The lengths of the pieces of a rendered text, and the display value by mode. -/

namespace Sys2Proof

@[simp] theorem hex2_length (x : Byte) : (hex2 x).length = 2 := rfl

@[simp] theorem hexGroups_length (k : Nat) (v : Count) : (hexGroups k v).length = 2 * k := by
  induction k with
  | zero => rfl
  | succ k ih => simp [hexGroups, ih]; omega

@[simp] theorem hex_length (v : Count) : (hex v).length = 1 + 2 * hexGroupCount v := by
  simp [hex]; omega

/-- The group count is the least of 1 to 4 that holds the value (R132). -/
theorem hexGroupCount_cases (v : Count) :
    (hexGroupCount v = 1 ∧ v.toNat < 2 ^ 8) ∨
    (hexGroupCount v = 2 ∧ 2 ^ 8 ≤ v.toNat ∧ v.toNat < 2 ^ 16) ∨
    (hexGroupCount v = 3 ∧ 2 ^ 16 ≤ v.toNat ∧ v.toNat < 2 ^ 24) ∨
    (hexGroupCount v = 4 ∧ 2 ^ 24 ≤ v.toNat) := by
  unfold hexGroupCount
  split
  · exact .inl ⟨rfl, ‹_›⟩
  · split
    · exact .inr (.inl ⟨rfl, by omega, ‹_›⟩)
    · split
      · exact .inr (.inr (.inl ⟨rfl, by omega, ‹_›⟩))
      · exact .inr (.inr (.inr ⟨rfl, by omega⟩))

@[simp] theorem display_rel (s : Machine.State) : s.display .rel = s.cnt + sext32 (loByte s.opnd) := rfl

theorem display_of_ne_rel (s : Machine.State) {md : Mode} (h : md ≠ .rel) : s.display md = zext32 s.opnd := by
  simp [Machine.State.display, h]

end Sys2Proof
end

