-- ==== Sys2Proof/Laws/Rom.lean ====
section
/-! SUPPORT. The resolver in terms of the opcode ROM (R100). -/

namespace Sys2Proof

theorem classifyMnemonic_of_rom {b : Byte} {m : Mnemonic} {md : Mode} (h : rom b = some (m, md)) :
    classifyMnemonic b = some m := by simp [classifyMnemonic, h]

theorem classifyAddressingMode_of_rom {b : Byte} {m : Mnemonic} {md : Mode} (h : rom b = some (m, md)) :
    classifyAddressingMode b = some md := by simp [classifyAddressingMode, h]

theorem resolve_of_rom {b : Byte} {m : Mnemonic} {md : Mode} (h : rom b = some (m, md)) :
    resolve b = some ⟨b, m, md, m.text, md.count⟩ := by
  simp [resolve, classifyMnemonic_of_rom h, classifyAddressingMode_of_rom h]

theorem resolve_of_noMatch {b : Byte} (h : rom b = none) : resolve b = none := by
  simp [resolve, classifyMnemonic, classifyAddressingMode, h]

/-- The resolver answers a descriptor exactly from a ROM cell. -/
theorem resolve_eq_some {b : Byte} {d : Descriptor} :
    resolve b = some d ↔ ∃ m md, rom b = some (m, md) ∧ d = ⟨b, m, md, m.text, md.count⟩ := by
  cases h : rom b with
  | none => simp [resolve_of_noMatch h]
  | some c =>
    obtain ⟨m, md⟩ := c
    simp [resolve_of_rom h, eq_comm]

end Sys2Proof
end

