-- ==== Sys2Proof/Laws/State.lean ====
section
/-! SUPPORT. What each named register update does to each field of the state, true by definition. -/

namespace Sys2Proof.Machine.State

@[simp] theorem countByte_dv (s : State) : (s.countByte).dv = s.dv := rfl
@[simp] theorem countByte_opc (s : State) : (s.countByte).opc = s.opc := rfl
@[simp] theorem countByte_ov (s : State) : (s.countByte).ov = s.ov := rfl
@[simp] theorem countByte_opnd (s : State) : (s.countByte).opnd = s.opnd := rfl
@[simp] theorem countByte_rem (s : State) : (s.countByte).rem = s.rem := rfl
@[simp] theorem countByte_cnt (s : State) : (s.countByte).cnt = s.cnt + 1 := rfl
@[simp] theorem countByte_input (s : State) : (s.countByte).input = s.input := rfl

@[simp] theorem discard_dv (s : State) : (s.discard).dv = false := rfl
@[simp] theorem discard_opc (s : State) : (s.discard).opc = s.opc := rfl
@[simp] theorem discard_ov (s : State) : (s.discard).ov = false := rfl
@[simp] theorem discard_opnd (s : State) : (s.discard).opnd = 0 := rfl
@[simp] theorem discard_rem (s : State) : (s.discard).rem = 0 := rfl
@[simp] theorem discard_cnt (s : State) : (s.discard).cnt = s.cnt := rfl
@[simp] theorem discard_input (s : State) : (s.discard).input = s.input := rfl

@[simp] theorem install_dv (d : Descriptor) (s : State) : (s.install d).dv = true := rfl
@[simp] theorem install_opc (d : Descriptor) (s : State) : (s.install d).opc = d.byte := rfl
@[simp] theorem install_ov (d : Descriptor) (s : State) : (s.install d).ov = false := rfl
@[simp] theorem install_opnd (d : Descriptor) (s : State) : (s.install d).opnd = 0 := rfl
@[simp] theorem install_rem (d : Descriptor) (s : State) : (s.install d).rem = d.count := rfl
@[simp] theorem install_cnt (d : Descriptor) (s : State) : (s.install d).cnt = s.cnt := rfl
@[simp] theorem install_input (d : Descriptor) (s : State) : (s.install d).input = s.input := rfl

@[simp] theorem fold_dv (b : Byte) (s : State) : (s.fold b).dv = s.dv := rfl
@[simp] theorem fold_opc (b : Byte) (s : State) : (s.fold b).opc = s.opc := rfl
@[simp] theorem fold_ov (b : Byte) (s : State) : (s.fold b).ov = true := rfl
@[simp] theorem fold_opnd (b : Byte) (s : State) : (s.fold b).opnd = s.opnd ||| (zext16 b <<< (8 * s.foldPosition)) := rfl
@[simp] theorem fold_rem (b : Byte) (s : State) : (s.fold b).rem = decRem s.rem := rfl
@[simp] theorem fold_cnt (b : Byte) (s : State) : (s.fold b).cnt = s.cnt := rfl
@[simp] theorem fold_input (b : Byte) (s : State) : (s.fold b).input = s.input := rfl

end Sys2Proof.Machine.State
end

