-- ==== Sys2Proof/Laws/Ops.lean ====
section
/-! SUPPORT. Everything the decode transaction (R102), the presentation of bytes (R117) and the shared shapes of an
instruction can do, said once. -/

namespace Sys2Proof.Machine

/-- The three things a transaction can do (R305), each with what it writes. -/
theorem decodeByte_cases (b : Byte) (s : State) :
    (s.AtBoundary ∧ resolve b = none ∧ decodeByte b s = s.countByte.discard) ∨
    (∃ d, s.AtBoundary ∧ resolve b = some d ∧ decodeByte b s = s.countByte.install d) ∨
    (¬ s.AtBoundary ∧ decodeByte b s = s.countByte.fold b) := by
  by_cases hb : s.AtBoundary
  · cases hr : resolve b with
    | none => exact .inl ⟨hb, rfl, by simp [decodeByte, startInstruction, hb, hr]⟩
    | some d => exact .inr (.inl ⟨d, hb, rfl, by simp [decodeByte, startInstruction, hb, hr]⟩)
  · exact .inr (.inr ⟨hb, by simp [decodeByte, hb]⟩)

theorem decodeByte_of_boundary {s : State} (h : s.AtBoundary) (b : Byte) :
    decodeByte b s = startInstruction b s.countByte := if_pos h

theorem decodeByte_of_inside {s : State} (h : ¬ s.AtBoundary) (b : Byte) :
    decodeByte b s = s.countByte.fold b := if_neg h

/-- At a boundary a byte with no match is discarded (R103). -/
theorem decodeByte_of_noMatch {s : State} (h : s.AtBoundary) {b : Byte} (hr : rom b = none) :
    decodeByte b s = s.countByte.discard := by
  simp [decodeByte_of_boundary h, startInstruction, resolve_of_noMatch hr]

/-- At a boundary a byte with a ROM cell installs its descriptor (R102 step 2). -/
theorem decodeByte_of_rom {s : State} (h : s.AtBoundary) {b : Byte} {m : Mnemonic} {md : Mode}
    (hr : rom b = some (m, md)) :
    decodeByte b s = s.countByte.install ⟨b, m, md, m.text, md.count⟩ := by
  simp [decodeByte_of_boundary h, startInstruction, resolve_of_rom hr]

/-- A transaction never touches the host's pending feeds. -/
@[simp] theorem decodeByte_input (b : Byte) (s : State) : (decodeByte b s).input = s.input := by
  obtain ⟨-, -, h⟩ | ⟨d, -, -, h⟩ | ⟨-, h⟩ := decodeByte_cases b s <;> simp [h]

/-- Every transaction counts its byte (R24). -/
@[simp] theorem decodeByte_cnt (b : Byte) (s : State) : (decodeByte b s).cnt = s.cnt + 1 := by
  obtain ⟨-, -, h⟩ | ⟨d, -, -, h⟩ | ⟨-, h⟩ := decodeByte_cases b s <;> simp [h]

theorem expectedCount_of_rom {s : State} {m : Mnemonic} {md : Mode} (h : rom s.opc = some (m, md)) :
    s.expectedCount = md.count := by simp [State.expectedCount, h]

theorem foldPosition_of_le {s : State} (h : s.rem ≤ s.expectedCount) :
    s.foldPosition = s.expectedCount.val - s.rem.val := if_pos h

@[simp] theorem present_nil (s : State) : present [] s = s := rfl

@[simp] theorem present_cons (b : Byte) (bs : List Byte) (s : State) :
    present (b :: bs) s = present bs (decodeByte b s) := rfl

theorem present_append (as bs : List Byte) (s : State) : present (as ++ bs) s = present bs (present as s) := by
  induction as generalizing s with
  | nil => rfl
  | cons a as ih => exact ih _

@[simp] theorem present_input (bs : List Byte) (s : State) : (present bs s).input = s.input := by
  induction bs generalizing s with
  | nil => rfl
  | cons b bs ih => simp [ih]

theorem instruction0_eq (o : Byte) (s : State) : instruction0 o s = .next (present [o] s) := rfl

theorem instruction1_eq (o b1 : Byte) (s : State) : instruction1 o b1 s = .next (present [o, b1] s) := rfl

theorem instruction2_eq (o : Byte) (v : Operand) (s : State) :
    instruction2 o v s = .next (present [o, loByte v, hiByte v] s) := rfl

theorem takeFeed_cons {s : State} {feed : List Byte} {rest : List (List Byte)} (h : s.input = feed :: rest) :
    s.takeFeed = some (feed, { s with input := rest }) := by simp [State.takeFeed, h]

theorem takeFeed_nil {s : State} (h : s.input = []) : s.takeFeed = none := by simp [State.takeFeed, h]

end Sys2Proof.Machine
end

