-- ==== Sys2Proof/Laws/PerInstr.lean ====
section
/-! SUPPORT. The per-instruction family `EncodingFitsRom`: the bytes the encoder writes for an instruction are one whole
instruction of the block by the opcode ROM (R60), that is, its opcode is defined and its operand bytes are exactly those
its mode takes. -/

namespace Sys2Proof.Laws.EncodingFitsRom

/-- The instruction's own bytes pass the well-formedness check of WellFormed.lean. -/
def Statement (i : Instr) : Prop := i.wellFormed = true

theorem brk : Statement .brk := rfl
theorem oraZpXInd (zp : Byte) : Statement (.oraZpXInd zp) := rfl
theorem tsbZp (zp : Byte) : Statement (.tsbZp zp) := rfl
theorem oraZp (zp : Byte) : Statement (.oraZp zp) := rfl
theorem aslZp (zp : Byte) : Statement (.aslZp zp) := rfl
theorem rmb0 (zp : Byte) : Statement (.rmb0 zp) := rfl
theorem php : Statement .php := rfl
theorem oraImm (imm : Byte) : Statement (.oraImm imm) := rfl
theorem aslAcc : Statement .aslAcc := rfl
theorem tsbAbs (addr : Operand) : Statement (.tsbAbs addr) := rfl
theorem oraAbs (addr : Operand) : Statement (.oraAbs addr) := rfl
theorem aslAbs (addr : Operand) : Statement (.aslAbs addr) := rfl
theorem bbr0 (off : Byte) : Statement (.bbr0 off) := rfl
theorem bpl (off : Byte) : Statement (.bpl off) := rfl
theorem oraZpIndY (zp : Byte) : Statement (.oraZpIndY zp) := rfl
theorem oraZpInd (zp : Byte) : Statement (.oraZpInd zp) := rfl
theorem trbZp (zp : Byte) : Statement (.trbZp zp) := rfl
theorem oraZpX (zp : Byte) : Statement (.oraZpX zp) := rfl
theorem aslZpX (zp : Byte) : Statement (.aslZpX zp) := rfl
theorem rmb1 (zp : Byte) : Statement (.rmb1 zp) := rfl
theorem clc : Statement .clc := rfl
theorem oraAbsY (addr : Operand) : Statement (.oraAbsY addr) := rfl
theorem incAcc : Statement .incAcc := rfl
theorem trbAbs (addr : Operand) : Statement (.trbAbs addr) := rfl
theorem oraAbsX (addr : Operand) : Statement (.oraAbsX addr) := rfl
theorem aslAbsX (addr : Operand) : Statement (.aslAbsX addr) := rfl
theorem bbr1 (off : Byte) : Statement (.bbr1 off) := rfl
theorem jsr (addr : Operand) : Statement (.jsr addr) := rfl
theorem andZpXInd (zp : Byte) : Statement (.andZpXInd zp) := rfl
theorem bitZp (zp : Byte) : Statement (.bitZp zp) := rfl
theorem andZp (zp : Byte) : Statement (.andZp zp) := rfl
theorem rolZp (zp : Byte) : Statement (.rolZp zp) := rfl
theorem rmb2 (zp : Byte) : Statement (.rmb2 zp) := rfl
theorem plp : Statement .plp := rfl
theorem andImm (imm : Byte) : Statement (.andImm imm) := rfl
theorem rolAcc : Statement .rolAcc := rfl
theorem bitAbs (addr : Operand) : Statement (.bitAbs addr) := rfl
theorem andAbs (addr : Operand) : Statement (.andAbs addr) := rfl
theorem rolAbs (addr : Operand) : Statement (.rolAbs addr) := rfl
theorem bbr2 (off : Byte) : Statement (.bbr2 off) := rfl
theorem bmi (off : Byte) : Statement (.bmi off) := rfl
theorem andZpIndY (zp : Byte) : Statement (.andZpIndY zp) := rfl
theorem andZpInd (zp : Byte) : Statement (.andZpInd zp) := rfl
theorem bitZpX (zp : Byte) : Statement (.bitZpX zp) := rfl
theorem andZpX (zp : Byte) : Statement (.andZpX zp) := rfl
theorem rolZpX (zp : Byte) : Statement (.rolZpX zp) := rfl
theorem rmb3 (zp : Byte) : Statement (.rmb3 zp) := rfl
theorem sec : Statement .sec := rfl
theorem andAbsY (addr : Operand) : Statement (.andAbsY addr) := rfl
theorem decAcc : Statement .decAcc := rfl
theorem bitAbsX (addr : Operand) : Statement (.bitAbsX addr) := rfl
theorem andAbsX (addr : Operand) : Statement (.andAbsX addr) := rfl
theorem rolAbsX (addr : Operand) : Statement (.rolAbsX addr) := rfl
theorem bbr3 (off : Byte) : Statement (.bbr3 off) := rfl
theorem rti : Statement .rti := rfl
theorem eorZpXInd (zp : Byte) : Statement (.eorZpXInd zp) := rfl
theorem eorZp (zp : Byte) : Statement (.eorZp zp) := rfl
theorem lsrZp (zp : Byte) : Statement (.lsrZp zp) := rfl
theorem rmb4 (zp : Byte) : Statement (.rmb4 zp) := rfl
theorem pha : Statement .pha := rfl
theorem eorImm (imm : Byte) : Statement (.eorImm imm) := rfl
theorem lsrAcc : Statement .lsrAcc := rfl
theorem jmpAbs (addr : Operand) : Statement (.jmpAbs addr) := rfl
theorem eorAbs (addr : Operand) : Statement (.eorAbs addr) := rfl
theorem lsrAbs (addr : Operand) : Statement (.lsrAbs addr) := rfl
theorem bbr4 (off : Byte) : Statement (.bbr4 off) := rfl
theorem bvc (off : Byte) : Statement (.bvc off) := rfl
theorem eorZpIndY (zp : Byte) : Statement (.eorZpIndY zp) := rfl
theorem eorZpInd (zp : Byte) : Statement (.eorZpInd zp) := rfl
theorem eorZpX (zp : Byte) : Statement (.eorZpX zp) := rfl
theorem lsrZpX (zp : Byte) : Statement (.lsrZpX zp) := rfl
theorem rmb5 (zp : Byte) : Statement (.rmb5 zp) := rfl
theorem cli : Statement .cli := rfl
theorem eorAbsY (addr : Operand) : Statement (.eorAbsY addr) := rfl
theorem phy : Statement .phy := rfl
theorem eorAbsX (addr : Operand) : Statement (.eorAbsX addr) := rfl
theorem lsrAbsX (addr : Operand) : Statement (.lsrAbsX addr) := rfl
theorem bbr5 (off : Byte) : Statement (.bbr5 off) := rfl
theorem rts : Statement .rts := rfl
theorem adcZpXInd (zp : Byte) : Statement (.adcZpXInd zp) := rfl
theorem stzZp (zp : Byte) : Statement (.stzZp zp) := rfl
theorem adcZp (zp : Byte) : Statement (.adcZp zp) := rfl
theorem rorZp (zp : Byte) : Statement (.rorZp zp) := rfl
theorem rmb6 (zp : Byte) : Statement (.rmb6 zp) := rfl
theorem pla : Statement .pla := rfl
theorem adcImm (imm : Byte) : Statement (.adcImm imm) := rfl
theorem rorAcc : Statement .rorAcc := rfl
theorem jmpAbsInd (addr : Operand) : Statement (.jmpAbsInd addr) := rfl
theorem adcAbs (addr : Operand) : Statement (.adcAbs addr) := rfl
theorem rorAbs (addr : Operand) : Statement (.rorAbs addr) := rfl
theorem bbr6 (off : Byte) : Statement (.bbr6 off) := rfl
theorem bvs (off : Byte) : Statement (.bvs off) := rfl
theorem adcZpIndY (zp : Byte) : Statement (.adcZpIndY zp) := rfl
theorem adcZpInd (zp : Byte) : Statement (.adcZpInd zp) := rfl
theorem stzZpX (zp : Byte) : Statement (.stzZpX zp) := rfl
theorem adcZpX (zp : Byte) : Statement (.adcZpX zp) := rfl
theorem rorZpX (zp : Byte) : Statement (.rorZpX zp) := rfl
theorem rmb7 (zp : Byte) : Statement (.rmb7 zp) := rfl
theorem sei : Statement .sei := rfl
theorem adcAbsY (addr : Operand) : Statement (.adcAbsY addr) := rfl
theorem ply : Statement .ply := rfl
theorem jmpAbsXInd (addr : Operand) : Statement (.jmpAbsXInd addr) := rfl
theorem adcAbsX (addr : Operand) : Statement (.adcAbsX addr) := rfl
theorem rorAbsX (addr : Operand) : Statement (.rorAbsX addr) := rfl
theorem bbr7 (off : Byte) : Statement (.bbr7 off) := rfl
theorem bra (off : Byte) : Statement (.bra off) := rfl
theorem staZpXInd (zp : Byte) : Statement (.staZpXInd zp) := rfl
theorem styZp (zp : Byte) : Statement (.styZp zp) := rfl
theorem staZp (zp : Byte) : Statement (.staZp zp) := rfl
theorem stxZp (zp : Byte) : Statement (.stxZp zp) := rfl
theorem smb0 (zp : Byte) : Statement (.smb0 zp) := rfl
theorem dey : Statement .dey := rfl
theorem bitImm (imm : Byte) : Statement (.bitImm imm) := rfl
theorem txa : Statement .txa := rfl
theorem styAbs (addr : Operand) : Statement (.styAbs addr) := rfl
theorem staAbs (addr : Operand) : Statement (.staAbs addr) := rfl
theorem stxAbs (addr : Operand) : Statement (.stxAbs addr) := rfl
theorem bbs0 (off : Byte) : Statement (.bbs0 off) := rfl
theorem bcc (off : Byte) : Statement (.bcc off) := rfl
theorem staZpIndY (zp : Byte) : Statement (.staZpIndY zp) := rfl
theorem staZpInd (zp : Byte) : Statement (.staZpInd zp) := rfl
theorem styZpX (zp : Byte) : Statement (.styZpX zp) := rfl
theorem staZpX (zp : Byte) : Statement (.staZpX zp) := rfl
theorem stxZpY (zp : Byte) : Statement (.stxZpY zp) := rfl
theorem smb1 (zp : Byte) : Statement (.smb1 zp) := rfl
theorem tya : Statement .tya := rfl
theorem staAbsY (addr : Operand) : Statement (.staAbsY addr) := rfl
theorem txs : Statement .txs := rfl
theorem stzAbs (addr : Operand) : Statement (.stzAbs addr) := rfl
theorem staAbsX (addr : Operand) : Statement (.staAbsX addr) := rfl
theorem stzAbsX (addr : Operand) : Statement (.stzAbsX addr) := rfl
theorem bbs1 (off : Byte) : Statement (.bbs1 off) := rfl
theorem ldyImm (imm : Byte) : Statement (.ldyImm imm) := rfl
theorem ldaZpXInd (zp : Byte) : Statement (.ldaZpXInd zp) := rfl
theorem ldxImm (imm : Byte) : Statement (.ldxImm imm) := rfl
theorem ldyZp (zp : Byte) : Statement (.ldyZp zp) := rfl
theorem ldaZp (zp : Byte) : Statement (.ldaZp zp) := rfl
theorem ldxZp (zp : Byte) : Statement (.ldxZp zp) := rfl
theorem smb2 (zp : Byte) : Statement (.smb2 zp) := rfl
theorem tay : Statement .tay := rfl
theorem ldaImm (imm : Byte) : Statement (.ldaImm imm) := rfl
theorem tax : Statement .tax := rfl
theorem ldyAbs (addr : Operand) : Statement (.ldyAbs addr) := rfl
theorem ldaAbs (addr : Operand) : Statement (.ldaAbs addr) := rfl
theorem ldxAbs (addr : Operand) : Statement (.ldxAbs addr) := rfl
theorem bbs2 (off : Byte) : Statement (.bbs2 off) := rfl
theorem bcs (off : Byte) : Statement (.bcs off) := rfl
theorem ldaZpIndY (zp : Byte) : Statement (.ldaZpIndY zp) := rfl
theorem ldaZpInd (zp : Byte) : Statement (.ldaZpInd zp) := rfl
theorem ldyZpX (zp : Byte) : Statement (.ldyZpX zp) := rfl
theorem ldaZpX (zp : Byte) : Statement (.ldaZpX zp) := rfl
theorem ldxZpY (zp : Byte) : Statement (.ldxZpY zp) := rfl
theorem smb3 (zp : Byte) : Statement (.smb3 zp) := rfl
theorem clv : Statement .clv := rfl
theorem ldaAbsY (addr : Operand) : Statement (.ldaAbsY addr) := rfl
theorem tsx : Statement .tsx := rfl
theorem ldyAbsX (addr : Operand) : Statement (.ldyAbsX addr) := rfl
theorem ldaAbsX (addr : Operand) : Statement (.ldaAbsX addr) := rfl
theorem ldxAbsY (addr : Operand) : Statement (.ldxAbsY addr) := rfl
theorem bbs3 (off : Byte) : Statement (.bbs3 off) := rfl
theorem cpyImm (imm : Byte) : Statement (.cpyImm imm) := rfl
theorem cmpZpXInd (zp : Byte) : Statement (.cmpZpXInd zp) := rfl
theorem cpyZp (zp : Byte) : Statement (.cpyZp zp) := rfl
theorem cmpZp (zp : Byte) : Statement (.cmpZp zp) := rfl
theorem decZp (zp : Byte) : Statement (.decZp zp) := rfl
theorem smb4 (zp : Byte) : Statement (.smb4 zp) := rfl
theorem iny : Statement .iny := rfl
theorem cmpImm (imm : Byte) : Statement (.cmpImm imm) := rfl
theorem dex : Statement .dex := rfl
theorem wai : Statement .wai := rfl
theorem cpyAbs (addr : Operand) : Statement (.cpyAbs addr) := rfl
theorem cmpAbs (addr : Operand) : Statement (.cmpAbs addr) := rfl
theorem decAbs (addr : Operand) : Statement (.decAbs addr) := rfl
theorem bbs4 (off : Byte) : Statement (.bbs4 off) := rfl
theorem bne (off : Byte) : Statement (.bne off) := rfl
theorem cmpZpIndY (zp : Byte) : Statement (.cmpZpIndY zp) := rfl
theorem cmpZpInd (zp : Byte) : Statement (.cmpZpInd zp) := rfl
theorem cmpZpX (zp : Byte) : Statement (.cmpZpX zp) := rfl
theorem decZpX (zp : Byte) : Statement (.decZpX zp) := rfl
theorem smb5 (zp : Byte) : Statement (.smb5 zp) := rfl
theorem cld : Statement .cld := rfl
theorem cmpAbsY (addr : Operand) : Statement (.cmpAbsY addr) := rfl
theorem phx : Statement .phx := rfl
theorem stp : Statement .stp := rfl
theorem cmpAbsX (addr : Operand) : Statement (.cmpAbsX addr) := rfl
theorem decAbsX (addr : Operand) : Statement (.decAbsX addr) := rfl
theorem bbs5 (off : Byte) : Statement (.bbs5 off) := rfl
theorem cpxImm (imm : Byte) : Statement (.cpxImm imm) := rfl
theorem sbcZpXInd (zp : Byte) : Statement (.sbcZpXInd zp) := rfl
theorem cpxZp (zp : Byte) : Statement (.cpxZp zp) := rfl
theorem sbcZp (zp : Byte) : Statement (.sbcZp zp) := rfl
theorem incZp (zp : Byte) : Statement (.incZp zp) := rfl
theorem smb6 (zp : Byte) : Statement (.smb6 zp) := rfl
theorem inx : Statement .inx := rfl
theorem sbcImm (imm : Byte) : Statement (.sbcImm imm) := rfl
theorem nop : Statement .nop := rfl
theorem cpxAbs (addr : Operand) : Statement (.cpxAbs addr) := rfl
theorem sbcAbs (addr : Operand) : Statement (.sbcAbs addr) := rfl
theorem incAbs (addr : Operand) : Statement (.incAbs addr) := rfl
theorem bbs6 (off : Byte) : Statement (.bbs6 off) := rfl
theorem beq (off : Byte) : Statement (.beq off) := rfl
theorem sbcZpIndY (zp : Byte) : Statement (.sbcZpIndY zp) := rfl
theorem sbcZpInd (zp : Byte) : Statement (.sbcZpInd zp) := rfl
theorem sbcZpX (zp : Byte) : Statement (.sbcZpX zp) := rfl
theorem incZpX (zp : Byte) : Statement (.incZpX zp) := rfl
theorem smb7 (zp : Byte) : Statement (.smb7 zp) := rfl
theorem sed : Statement .sed := rfl
theorem sbcAbsY (addr : Operand) : Statement (.sbcAbsY addr) := rfl
theorem plx : Statement .plx := rfl
theorem sbcAbsX (addr : Operand) : Statement (.sbcAbsX addr) := rfl
theorem incAbsX (addr : Operand) : Statement (.incAbsX addr) := rfl
theorem bbs7 (off : Byte) : Statement (.bbs7 off) := rfl

end Sys2Proof.Laws.EncodingFitsRom
end

