-- ==== Sys2Proof/Laws/Sequence.lean ====
section
/-! SUPPORT. The states an instruction passes through from a boundary, byte by byte, and the states of the register
invariant. -/

namespace Sys2Proof.Machine

@[simp] theorem decRem_val (r : Fin 3) : (decRem r).val = r.val - 1 := by revert r; decide

/-- The whole state after an opcode byte at a boundary. -/
theorem decodeByte_opcode {s : State} {o : Byte} {m : Mnemonic} {md : Mode} (hb : s.AtBoundary) (hr : rom o = some (m, md)) :
    decodeByte o s = { s with dv := true, opc := o, ov := false, opnd := 0, rem := md.count, cnt := s.cnt + 1 } := by
  rw [decodeByte_of_rom hb hr]; simp [State.install, State.countByte]

/-- The whole state after the first operand byte of an instruction that has one or two. -/
theorem decodeByte_firstOperand {s : State} {o : Byte} {m : Mnemonic} {md : Mode} (hb : s.AtBoundary)
    (hr : rom o = some (m, md)) (hc : md.count ≠ 0) (b1 : Byte) :
    decodeByte b1 (decodeByte o s) =
      { s with dv := true, opc := o, ov := true, opnd := zext16 b1, rem := decRem md.count, cnt := s.cnt + 2 } := by
  rw [decodeByte_opcode hb hr, decodeByte_of_inside (by simp [State.AtBoundary, hc])]
  have hp : ∀ t : State, t.opc = o → t.rem = md.count → t.foldPosition = 0 := by
    rintro t rfl h
    rw [foldPosition_of_le] <;> simp [expectedCount_of_rom hr, h]
  simp [State.fold]
  rw [hp] <;> simp [State.countByte, BitVec.add_assoc]

/-- The whole state after the second operand byte. -/
theorem decodeByte_secondOperand {s : State} {o : Byte} {m : Mnemonic} {md : Mode} (hb : s.AtBoundary)
    (hr : rom o = some (m, md)) (hc : md.count = 2) (b1 b2 : Byte) :
    decodeByte b2 (decodeByte b1 (decodeByte o s)) =
      { s with dv := true, opc := o, ov := true, opnd := joinBytes b2 b1, rem := 0, cnt := s.cnt + 3 } := by
  rw [decodeByte_firstOperand hb hr (by simp [hc]), decodeByte_of_inside (by simp [State.AtBoundary, hc, decRem])]
  have hp : ∀ t : State, t.opc = o → t.rem = 1 → t.foldPosition = 1 := by
    rintro t rfl h
    rw [foldPosition_of_le] <;> simp [expectedCount_of_rom hr, h, hc]
  simp [State.fold, hc, decRem]
  rw [hp] <;> simp [State.countByte, BitVec.add_assoc]
  simpa using fold_second b2 b1

/-- The three kinds of state of the invariant inside an instruction: before the only operand byte, before the first of
two, before the second of two. -/
theorem State.Inv.inside {s : State} (hi : s.Inv) (hn : ¬ s.AtBoundary) :
    ∃ m md, rom s.opc = some (m, md) ∧ s.dv = true ∧
      ((md.count = 1 ∧ s.rem = 1 ∧ s.ov = false ∧ s.opnd = 0) ∨ (md.count = 2 ∧ s.rem = 2 ∧ s.ov = false ∧ s.opnd = 0) ∨
       (md.count = 2 ∧ s.rem = 1 ∧ s.ov = true ∧ hiByte s.opnd = 0)) := by
  have hdv : s.dv = true := by
    cases h : s.dv with
    | false => exact absurd (.inl h) hn
    | true => rfl
  have hrem : s.rem ≠ 0 := fun h => hn (.inr h)
  obtain ⟨h1, h2⟩ := hi.resolves hdv
  obtain ⟨⟨m, md⟩, hm⟩ := Option.isSome_iff_exists.1 h1
  have he := expectedCount_of_rom hm
  refine ⟨m, md, hm, hdv, ?_⟩
  have hp := hi.present
  have hc := hi.cleared
  have hf := hi.firstOfTwo
  rw [he] at h2 hp hf
  generalize md.count = c at *
  generalize s.rem = r at *
  have key : ∀ c r : Fin 3, r ≤ c → r ≠ 0 → (c = 1 ∧ r = 1) ∨ (c = 2 ∧ r = 2) ∨ (c = 2 ∧ r = 1) := by decide
  obtain ⟨rfl, rfl⟩ | ⟨rfl, rfl⟩ | ⟨rfl, rfl⟩ := key c r h2 hrem
  · have h : s.ov = false := by simpa using hp
    exact .inl ⟨rfl, rfl, h, hc h⟩
  · have h : s.ov = false := by simpa using hp
    exact .inr (.inl ⟨rfl, rfl, h, hc h⟩)
  · have h : s.ov = true := by simpa [hdv] using hp
    exact .inr (.inr ⟨rfl, rfl, h, hf h rfl rfl⟩)

/-- The host's run of `k + 1` steps when the first of them answers a next state. -/
theorem run_of_step (M : Host.Core) {k : Nat} {s t : M.State} (h : M.step s = .next t) : M.run (k + 1) s = M.run k t := by
  simp [Host.Core.run, h]

end Sys2Proof.Machine
end

