-- ==== Sys2Proof/Laws/Step.lean ====
section
/-! SUPPORT. What a step can do, said once. -/

namespace Sys2Proof.Machine

theorem step_of_feed {s : State} {feed : List Byte} {rest : List (List Byte)} (h : s.input = feed :: rest) :
    step s = runFeed feed { s with input := rest } := by simp [step, takeFeed_cons h]

/-- The three ways a feed runs: byte by byte inside an instruction, byte by byte at a boundary when it does not begin
with a whole instruction, and else that instruction followed by the bytes after it. -/
theorem runFeed_cases (feed : List Byte) (s : State) :
    (¬ s.AtBoundary ∧ runFeed feed s = .next (present feed s)) ∨
    (∃ e, s.AtBoundary ∧ decode feed = .error e ∧ runFeed feed s = .next (present feed s)) ∨
    (∃ i more, s.AtBoundary ∧ decode feed = .ok (i, more) ∧
      ∀ t, exec i s = .next t → runFeed feed s = .next (present more t)) := by
  by_cases hb : s.AtBoundary
  · cases hd : decode feed with
    | error e => exact .inr (.inl ⟨e, hb, rfl, by simp [runFeed, hb, hd]⟩)
    | ok p => exact .inr (.inr ⟨p.1, p.2, hb, rfl, fun t ht => by simp [runFeed, hb, hd, ht]⟩)
  · exact .inl ⟨hb, by simp [runFeed, hb]⟩

theorem safeOutcome_next {t : State} (h : t.Inv) : SafeOutcome (.next t) := ⟨t, rfl, h⟩

end Sys2Proof.Machine
end

