-- ==== Sys2Proof/Tests/Slice0.lean ====
section
/-! SUPPORT. The model's own tests. Every expected value is taken from spec/95_test_vectors.md or written out from the
encodings of spec/opcode_table.json; none is the model's own answer. After them, a witness for the hypotheses of each
statement that has some. -/

namespace Sys2Proof.Tests

open Sys2Proof.Machine

/-- The state after the bytes, from a fresh decoder. -/
def after (bs : List Byte) : State := present bs State.reset

/-- A fresh decoder that has already consumed `n` bytes, all of them discarded. -/
def freshAt (n : Count) : State := { State.reset with cnt := n }

/-- The outcome is the next state `t`. -/
def goesTo (o : Host.Outcome State Fault Refusal) (t : State) : Bool :=
  match o with
  | .next u => decide (u = t)
  | .fault _ => false
  | .refused _ => false

/-- What the vectors of 95_test_vectors.md show of a state: status, mnemonicText, operand, render and CNT. -/
def shows (s : State) (st : Status) (mnem : Option Text) (operand : Option Operand) (text : Option Text) (cnt : Count) : Bool :=
  decide (s.status = st ∧ s.mnemonicText = mnem ∧ s.operand = operand ∧ s.render = text ∧ s.totalBytes = cnt)

/-- A row of Part 2: the written-out word decodes to `i`, `exec i` and one step from reset both lead to the state after the
row's bytes, which shows what the row says, after the row's statuses. -/
def rowHolds (nbits : Nat) (statuses : List Status) (md : Mode) (operand : Option Operand) (text : Text) (cnt : Count)
    (row : Nat × Instr × Text) : Bool :=
  let t := after (encode row.2.1)
  decide (decodeTableWord nbits row.1 = some row.2.1) && row.2.1.wellFormed &&
  decide (Claims.statusTrace (encode row.2.1) State.reset = statuses) && decide (t.addressingMode = some md) &&
  shows t .instructionComplete (some row.2.2) operand (some text) cnt &&
  goesTo (exec row.2.1 State.reset) t && goesTo (step (State.reset.withFetchWord nbits row.1)) t

/-! Part 2, every opcode of each mode: the word bit by bit (the operand bytes are 0x44, the relative offset 0x05, or the
bytes 0x34 0x12), the instruction, the mnemonic text. -/

theorem test_decode_zp_x_ind :
    (([(0b01000100_00000001, .oraZpXInd 0x44, ['O', 'R', 'A']),
      (0b01000100_00100001, .andZpXInd 0x44, ['A', 'N', 'D']),
      (0b01000100_01000001, .eorZpXInd 0x44, ['E', 'O', 'R']),
      (0b01000100_01100001, .adcZpXInd 0x44, ['A', 'D', 'C']),
      (0b01000100_10000001, .staZpXInd 0x44, ['S', 'T', 'A']),
      (0b01000100_10100001, .ldaZpXInd 0x44, ['L', 'D', 'A']),
      (0b01000100_11000001, .cmpZpXInd 0x44, ['C', 'M', 'P']),
      (0b01000100_11100001, .sbcZpXInd 0x44, ['S', 'B', 'C'])] : List (Nat × Instr × Text)).all
      (rowHolds 16 [.awaitingFirstOperandByte, .instructionComplete] .zpXInd (some 0x0044) ['(', '$', '4', '4', ',', ' ', 'X', ')'] 2)) = true := by decide

theorem test_decode_zp :
    (([(0b01000100_00000101, .oraZp 0x44, ['O', 'R', 'A']),
      (0b01000100_00100101, .andZp 0x44, ['A', 'N', 'D']),
      (0b01000100_01000101, .eorZp 0x44, ['E', 'O', 'R']),
      (0b01000100_01100101, .adcZp 0x44, ['A', 'D', 'C']),
      (0b01000100_10000101, .staZp 0x44, ['S', 'T', 'A']),
      (0b01000100_10100101, .ldaZp 0x44, ['L', 'D', 'A']),
      (0b01000100_11000101, .cmpZp 0x44, ['C', 'M', 'P']),
      (0b01000100_11100101, .sbcZp 0x44, ['S', 'B', 'C']),
      (0b01000100_00000110, .aslZp 0x44, ['A', 'S', 'L']),
      (0b01000100_00100110, .rolZp 0x44, ['R', 'O', 'L']),
      (0b01000100_01000110, .lsrZp 0x44, ['L', 'S', 'R']),
      (0b01000100_01100110, .rorZp 0x44, ['R', 'O', 'R']),
      (0b01000100_11100110, .incZp 0x44, ['I', 'N', 'C']),
      (0b01000100_11000110, .decZp 0x44, ['D', 'E', 'C']),
      (0b01000100_00100100, .bitZp 0x44, ['B', 'I', 'T']),
      (0b01000100_00000100, .tsbZp 0x44, ['T', 'S', 'B']),
      (0b01000100_00010100, .trbZp 0x44, ['T', 'R', 'B']),
      (0b01000100_01100100, .stzZp 0x44, ['S', 'T', 'Z']),
      (0b01000100_10100110, .ldxZp 0x44, ['L', 'D', 'X']),
      (0b01000100_10100100, .ldyZp 0x44, ['L', 'D', 'Y']),
      (0b01000100_10000110, .stxZp 0x44, ['S', 'T', 'X']),
      (0b01000100_10000100, .styZp 0x44, ['S', 'T', 'Y']),
      (0b01000100_11100100, .cpxZp 0x44, ['C', 'P', 'X']),
      (0b01000100_11000100, .cpyZp 0x44, ['C', 'P', 'Y']),
      (0b01000100_00000111, .rmb0 0x44, ['R', 'M', 'B', '0']),
      (0b01000100_00010111, .rmb1 0x44, ['R', 'M', 'B', '1']),
      (0b01000100_00100111, .rmb2 0x44, ['R', 'M', 'B', '2']),
      (0b01000100_00110111, .rmb3 0x44, ['R', 'M', 'B', '3']),
      (0b01000100_01000111, .rmb4 0x44, ['R', 'M', 'B', '4']),
      (0b01000100_01010111, .rmb5 0x44, ['R', 'M', 'B', '5']),
      (0b01000100_01100111, .rmb6 0x44, ['R', 'M', 'B', '6']),
      (0b01000100_01110111, .rmb7 0x44, ['R', 'M', 'B', '7']),
      (0b01000100_10000111, .smb0 0x44, ['S', 'M', 'B', '0']),
      (0b01000100_10010111, .smb1 0x44, ['S', 'M', 'B', '1']),
      (0b01000100_10100111, .smb2 0x44, ['S', 'M', 'B', '2']),
      (0b01000100_10110111, .smb3 0x44, ['S', 'M', 'B', '3']),
      (0b01000100_11000111, .smb4 0x44, ['S', 'M', 'B', '4']),
      (0b01000100_11010111, .smb5 0x44, ['S', 'M', 'B', '5']),
      (0b01000100_11100111, .smb6 0x44, ['S', 'M', 'B', '6']),
      (0b01000100_11110111, .smb7 0x44, ['S', 'M', 'B', '7'])] : List (Nat × Instr × Text)).all
      (rowHolds 16 [.awaitingFirstOperandByte, .instructionComplete] .zp (some 0x0044) ['$', '4', '4'] 2)) = true := by decide

theorem test_decode_imm :
    (([(0b01000100_00001001, .oraImm 0x44, ['O', 'R', 'A']),
      (0b01000100_00101001, .andImm 0x44, ['A', 'N', 'D']),
      (0b01000100_01001001, .eorImm 0x44, ['E', 'O', 'R']),
      (0b01000100_01101001, .adcImm 0x44, ['A', 'D', 'C']),
      (0b01000100_10101001, .ldaImm 0x44, ['L', 'D', 'A']),
      (0b01000100_11001001, .cmpImm 0x44, ['C', 'M', 'P']),
      (0b01000100_11101001, .sbcImm 0x44, ['S', 'B', 'C']),
      (0b01000100_10001001, .bitImm 0x44, ['B', 'I', 'T']),
      (0b01000100_10100010, .ldxImm 0x44, ['L', 'D', 'X']),
      (0b01000100_10100000, .ldyImm 0x44, ['L', 'D', 'Y']),
      (0b01000100_11100000, .cpxImm 0x44, ['C', 'P', 'X']),
      (0b01000100_11000000, .cpyImm 0x44, ['C', 'P', 'Y'])] : List (Nat × Instr × Text)).all
      (rowHolds 16 [.awaitingFirstOperandByte, .instructionComplete] .imm (some 0x0044) ['#', '$', '4', '4'] 2)) = true := by decide

theorem test_decode_abs :
    (([(0b00010010_00110100_00001101, .oraAbs 0x1234, ['O', 'R', 'A']),
      (0b00010010_00110100_00101101, .andAbs 0x1234, ['A', 'N', 'D']),
      (0b00010010_00110100_01001101, .eorAbs 0x1234, ['E', 'O', 'R']),
      (0b00010010_00110100_01101101, .adcAbs 0x1234, ['A', 'D', 'C']),
      (0b00010010_00110100_10001101, .staAbs 0x1234, ['S', 'T', 'A']),
      (0b00010010_00110100_10101101, .ldaAbs 0x1234, ['L', 'D', 'A']),
      (0b00010010_00110100_11001101, .cmpAbs 0x1234, ['C', 'M', 'P']),
      (0b00010010_00110100_11101101, .sbcAbs 0x1234, ['S', 'B', 'C']),
      (0b00010010_00110100_00001110, .aslAbs 0x1234, ['A', 'S', 'L']),
      (0b00010010_00110100_00101110, .rolAbs 0x1234, ['R', 'O', 'L']),
      (0b00010010_00110100_01001110, .lsrAbs 0x1234, ['L', 'S', 'R']),
      (0b00010010_00110100_01101110, .rorAbs 0x1234, ['R', 'O', 'R']),
      (0b00010010_00110100_11101110, .incAbs 0x1234, ['I', 'N', 'C']),
      (0b00010010_00110100_11001110, .decAbs 0x1234, ['D', 'E', 'C']),
      (0b00010010_00110100_00101100, .bitAbs 0x1234, ['B', 'I', 'T']),
      (0b00010010_00110100_00001100, .tsbAbs 0x1234, ['T', 'S', 'B']),
      (0b00010010_00110100_00011100, .trbAbs 0x1234, ['T', 'R', 'B']),
      (0b00010010_00110100_10011100, .stzAbs 0x1234, ['S', 'T', 'Z']),
      (0b00010010_00110100_10101110, .ldxAbs 0x1234, ['L', 'D', 'X']),
      (0b00010010_00110100_10101100, .ldyAbs 0x1234, ['L', 'D', 'Y']),
      (0b00010010_00110100_10001110, .stxAbs 0x1234, ['S', 'T', 'X']),
      (0b00010010_00110100_10001100, .styAbs 0x1234, ['S', 'T', 'Y']),
      (0b00010010_00110100_11101100, .cpxAbs 0x1234, ['C', 'P', 'X']),
      (0b00010010_00110100_11001100, .cpyAbs 0x1234, ['C', 'P', 'Y']),
      (0b00010010_00110100_01001100, .jmpAbs 0x1234, ['J', 'M', 'P']),
      (0b00010010_00110100_00100000, .jsr 0x1234, ['J', 'S', 'R'])] : List (Nat × Instr × Text)).all
      (rowHolds 24 [.awaitingFirstOperandByte, .awaitingSecondOperandByte, .instructionComplete] .abs (some 0x1234) ['$', '1', '2', '3', '4'] 3)) = true := by decide

theorem test_decode_zp_ind_y :
    (([(0b01000100_00010001, .oraZpIndY 0x44, ['O', 'R', 'A']),
      (0b01000100_00110001, .andZpIndY 0x44, ['A', 'N', 'D']),
      (0b01000100_01010001, .eorZpIndY 0x44, ['E', 'O', 'R']),
      (0b01000100_01110001, .adcZpIndY 0x44, ['A', 'D', 'C']),
      (0b01000100_10010001, .staZpIndY 0x44, ['S', 'T', 'A']),
      (0b01000100_10110001, .ldaZpIndY 0x44, ['L', 'D', 'A']),
      (0b01000100_11010001, .cmpZpIndY 0x44, ['C', 'M', 'P']),
      (0b01000100_11110001, .sbcZpIndY 0x44, ['S', 'B', 'C'])] : List (Nat × Instr × Text)).all
      (rowHolds 16 [.awaitingFirstOperandByte, .instructionComplete] .zpIndY (some 0x0044) ['(', '$', '4', '4', ')', ',', ' ', 'Y'] 2)) = true := by decide

theorem test_decode_zp_ind :
    (([(0b01000100_00010010, .oraZpInd 0x44, ['O', 'R', 'A']),
      (0b01000100_00110010, .andZpInd 0x44, ['A', 'N', 'D']),
      (0b01000100_01010010, .eorZpInd 0x44, ['E', 'O', 'R']),
      (0b01000100_01110010, .adcZpInd 0x44, ['A', 'D', 'C']),
      (0b01000100_10010010, .staZpInd 0x44, ['S', 'T', 'A']),
      (0b01000100_10110010, .ldaZpInd 0x44, ['L', 'D', 'A']),
      (0b01000100_11010010, .cmpZpInd 0x44, ['C', 'M', 'P']),
      (0b01000100_11110010, .sbcZpInd 0x44, ['S', 'B', 'C'])] : List (Nat × Instr × Text)).all
      (rowHolds 16 [.awaitingFirstOperandByte, .instructionComplete] .zpInd (some 0x0044) ['(', '$', '4', '4', ')'] 2)) = true := by decide

theorem test_decode_zp_x :
    (([(0b01000100_00010101, .oraZpX 0x44, ['O', 'R', 'A']),
      (0b01000100_00110101, .andZpX 0x44, ['A', 'N', 'D']),
      (0b01000100_01010101, .eorZpX 0x44, ['E', 'O', 'R']),
      (0b01000100_01110101, .adcZpX 0x44, ['A', 'D', 'C']),
      (0b01000100_10010101, .staZpX 0x44, ['S', 'T', 'A']),
      (0b01000100_10110101, .ldaZpX 0x44, ['L', 'D', 'A']),
      (0b01000100_11010101, .cmpZpX 0x44, ['C', 'M', 'P']),
      (0b01000100_11110101, .sbcZpX 0x44, ['S', 'B', 'C']),
      (0b01000100_00010110, .aslZpX 0x44, ['A', 'S', 'L']),
      (0b01000100_00110110, .rolZpX 0x44, ['R', 'O', 'L']),
      (0b01000100_01010110, .lsrZpX 0x44, ['L', 'S', 'R']),
      (0b01000100_01110110, .rorZpX 0x44, ['R', 'O', 'R']),
      (0b01000100_11110110, .incZpX 0x44, ['I', 'N', 'C']),
      (0b01000100_11010110, .decZpX 0x44, ['D', 'E', 'C']),
      (0b01000100_00110100, .bitZpX 0x44, ['B', 'I', 'T']),
      (0b01000100_01110100, .stzZpX 0x44, ['S', 'T', 'Z']),
      (0b01000100_10110100, .ldyZpX 0x44, ['L', 'D', 'Y']),
      (0b01000100_10010100, .styZpX 0x44, ['S', 'T', 'Y'])] : List (Nat × Instr × Text)).all
      (rowHolds 16 [.awaitingFirstOperandByte, .instructionComplete] .zpX (some 0x0044) ['$', '4', '4', ',', ' ', 'X'] 2)) = true := by decide

theorem test_decode_abs_y :
    (([(0b00010010_00110100_00011001, .oraAbsY 0x1234, ['O', 'R', 'A']),
      (0b00010010_00110100_00111001, .andAbsY 0x1234, ['A', 'N', 'D']),
      (0b00010010_00110100_01011001, .eorAbsY 0x1234, ['E', 'O', 'R']),
      (0b00010010_00110100_01111001, .adcAbsY 0x1234, ['A', 'D', 'C']),
      (0b00010010_00110100_10011001, .staAbsY 0x1234, ['S', 'T', 'A']),
      (0b00010010_00110100_10111001, .ldaAbsY 0x1234, ['L', 'D', 'A']),
      (0b00010010_00110100_11011001, .cmpAbsY 0x1234, ['C', 'M', 'P']),
      (0b00010010_00110100_11111001, .sbcAbsY 0x1234, ['S', 'B', 'C']),
      (0b00010010_00110100_10111110, .ldxAbsY 0x1234, ['L', 'D', 'X'])] : List (Nat × Instr × Text)).all
      (rowHolds 24 [.awaitingFirstOperandByte, .awaitingSecondOperandByte, .instructionComplete] .absY (some 0x1234) ['$', '1', '2', '3', '4', ',', ' ', 'Y'] 3)) = true := by decide

theorem test_decode_abs_x :
    (([(0b00010010_00110100_00011101, .oraAbsX 0x1234, ['O', 'R', 'A']),
      (0b00010010_00110100_00111101, .andAbsX 0x1234, ['A', 'N', 'D']),
      (0b00010010_00110100_01011101, .eorAbsX 0x1234, ['E', 'O', 'R']),
      (0b00010010_00110100_01111101, .adcAbsX 0x1234, ['A', 'D', 'C']),
      (0b00010010_00110100_10011101, .staAbsX 0x1234, ['S', 'T', 'A']),
      (0b00010010_00110100_10111101, .ldaAbsX 0x1234, ['L', 'D', 'A']),
      (0b00010010_00110100_11011101, .cmpAbsX 0x1234, ['C', 'M', 'P']),
      (0b00010010_00110100_11111101, .sbcAbsX 0x1234, ['S', 'B', 'C']),
      (0b00010010_00110100_00011110, .aslAbsX 0x1234, ['A', 'S', 'L']),
      (0b00010010_00110100_00111110, .rolAbsX 0x1234, ['R', 'O', 'L']),
      (0b00010010_00110100_01011110, .lsrAbsX 0x1234, ['L', 'S', 'R']),
      (0b00010010_00110100_01111110, .rorAbsX 0x1234, ['R', 'O', 'R']),
      (0b00010010_00110100_11111110, .incAbsX 0x1234, ['I', 'N', 'C']),
      (0b00010010_00110100_11011110, .decAbsX 0x1234, ['D', 'E', 'C']),
      (0b00010010_00110100_00111100, .bitAbsX 0x1234, ['B', 'I', 'T']),
      (0b00010010_00110100_10011110, .stzAbsX 0x1234, ['S', 'T', 'Z']),
      (0b00010010_00110100_10111100, .ldyAbsX 0x1234, ['L', 'D', 'Y'])] : List (Nat × Instr × Text)).all
      (rowHolds 24 [.awaitingFirstOperandByte, .awaitingSecondOperandByte, .instructionComplete] .absX (some 0x1234) ['$', '1', '2', '3', '4', ',', ' ', 'X'] 3)) = true := by decide

theorem test_decode_acc :
    (([(0b00001010, .aslAcc, ['A', 'S', 'L']),
      (0b00101010, .rolAcc, ['R', 'O', 'L']),
      (0b01001010, .lsrAcc, ['L', 'S', 'R']),
      (0b01101010, .rorAcc, ['R', 'O', 'R']),
      (0b00011010, .incAcc, ['I', 'N', 'C']),
      (0b00111010, .decAcc, ['D', 'E', 'C'])] : List (Nat × Instr × Text)).all
      (rowHolds 8 [.instructionComplete] .acc (none) [' ', 'A'] 1)) = true := by decide

theorem test_decode_zp_y :
    (([(0b01000100_10110110, .ldxZpY 0x44, ['L', 'D', 'X']),
      (0b01000100_10010110, .stxZpY 0x44, ['S', 'T', 'X'])] : List (Nat × Instr × Text)).all
      (rowHolds 16 [.awaitingFirstOperandByte, .instructionComplete] .zpY (some 0x0044) ['$', '4', '4', ',', ' ', 'Y'] 2)) = true := by decide

theorem test_decode_rel :
    (([(0b00000101_00010000, .bpl 0x05, ['B', 'P', 'L']),
      (0b00000101_00110000, .bmi 0x05, ['B', 'M', 'I']),
      (0b00000101_01010000, .bvc 0x05, ['B', 'V', 'C']),
      (0b00000101_01110000, .bvs 0x05, ['B', 'V', 'S']),
      (0b00000101_10010000, .bcc 0x05, ['B', 'C', 'C']),
      (0b00000101_10110000, .bcs 0x05, ['B', 'C', 'S']),
      (0b00000101_11010000, .bne 0x05, ['B', 'N', 'E']),
      (0b00000101_11110000, .beq 0x05, ['B', 'E', 'Q']),
      (0b00000101_10000000, .bra 0x05, ['B', 'R', 'A']),
      (0b00000101_00001111, .bbr0 0x05, ['B', 'B', 'R', '0']),
      (0b00000101_00011111, .bbr1 0x05, ['B', 'B', 'R', '1']),
      (0b00000101_00101111, .bbr2 0x05, ['B', 'B', 'R', '2']),
      (0b00000101_00111111, .bbr3 0x05, ['B', 'B', 'R', '3']),
      (0b00000101_01001111, .bbr4 0x05, ['B', 'B', 'R', '4']),
      (0b00000101_01011111, .bbr5 0x05, ['B', 'B', 'R', '5']),
      (0b00000101_01101111, .bbr6 0x05, ['B', 'B', 'R', '6']),
      (0b00000101_01111111, .bbr7 0x05, ['B', 'B', 'R', '7']),
      (0b00000101_10001111, .bbs0 0x05, ['B', 'B', 'S', '0']),
      (0b00000101_10011111, .bbs1 0x05, ['B', 'B', 'S', '1']),
      (0b00000101_10101111, .bbs2 0x05, ['B', 'B', 'S', '2']),
      (0b00000101_10111111, .bbs3 0x05, ['B', 'B', 'S', '3']),
      (0b00000101_11001111, .bbs4 0x05, ['B', 'B', 'S', '4']),
      (0b00000101_11011111, .bbs5 0x05, ['B', 'B', 'S', '5']),
      (0b00000101_11101111, .bbs6 0x05, ['B', 'B', 'S', '6']),
      (0b00000101_11111111, .bbs7 0x05, ['B', 'B', 'S', '7'])] : List (Nat × Instr × Text)).all
      (rowHolds 16 [.awaitingFirstOperandByte, .instructionComplete] .rel (some 0x0005) ['$', '0', '7'] 2)) = true := by decide

theorem test_decode_abs_ind :
    (([(0b00010010_00110100_01101100, .jmpAbsInd 0x1234, ['J', 'M', 'P'])] : List (Nat × Instr × Text)).all
      (rowHolds 24 [.awaitingFirstOperandByte, .awaitingSecondOperandByte, .instructionComplete] .absInd (some 0x1234) ['(', '$', '1', '2', '3', '4', ')'] 3)) = true := by decide

theorem test_decode_abs_x_ind :
    (([(0b00010010_00110100_01111100, .jmpAbsXInd 0x1234, ['J', 'M', 'P'])] : List (Nat × Instr × Text)).all
      (rowHolds 24 [.awaitingFirstOperandByte, .awaitingSecondOperandByte, .instructionComplete] .absXInd (some 0x1234) ['(', '$', '1', '2', '3', '4', ',', ' ', 'X', ')'] 3)) = true := by decide

theorem test_decode_stk :
    (([(0b00000000, .brk, ['B', 'R', 'K']),
      (0b01000000, .rti, ['R', 'T', 'I']),
      (0b01100000, .rts, ['R', 'T', 'S']),
      (0b01001000, .pha, ['P', 'H', 'A']),
      (0b00001000, .php, ['P', 'H', 'P']),
      (0b01101000, .pla, ['P', 'L', 'A']),
      (0b00101000, .plp, ['P', 'L', 'P']),
      (0b11011010, .phx, ['P', 'H', 'X']),
      (0b01011010, .phy, ['P', 'H', 'Y']),
      (0b11111010, .plx, ['P', 'L', 'X']),
      (0b01111010, .ply, ['P', 'L', 'Y'])] : List (Nat × Instr × Text)).all
      (rowHolds 8 [.instructionComplete] .stk (none) [] 1)) = true := by decide

theorem test_decode_imp :
    (([(0b00011000, .clc, ['C', 'L', 'C']),
      (0b00111000, .sec, ['S', 'E', 'C']),
      (0b01011000, .cli, ['C', 'L', 'I']),
      (0b01111000, .sei, ['S', 'E', 'I']),
      (0b10111000, .clv, ['C', 'L', 'V']),
      (0b11011000, .cld, ['C', 'L', 'D']),
      (0b11111000, .sed, ['S', 'E', 'D']),
      (0b11001010, .dex, ['D', 'E', 'X']),
      (0b10001000, .dey, ['D', 'E', 'Y']),
      (0b11101000, .inx, ['I', 'N', 'X']),
      (0b11001000, .iny, ['I', 'N', 'Y']),
      (0b10101010, .tax, ['T', 'A', 'X']),
      (0b10101000, .tay, ['T', 'A', 'Y']),
      (0b10001010, .txa, ['T', 'X', 'A']),
      (0b10011000, .tya, ['T', 'Y', 'A']),
      (0b10111010, .tsx, ['T', 'S', 'X']),
      (0b10011010, .txs, ['T', 'X', 'S']),
      (0b11101010, .nop, ['N', 'O', 'P']),
      (0b11001011, .wai, ['W', 'A', 'I']),
      (0b11011011, .stp, ['S', 'T', 'P'])] : List (Nat × Instr × Text)).all
      (rowHolds 8 [.instructionComplete] .imp (none) [] 1)) = true := by decide

/-! Part 3, the corner cases, under their ids. -/

/-- The decoder: reset, discarded bytes, data bytes, replacement, partial operands. V-D1 to V-D11. -/
theorem test_decoder :
    (shows (after []) .noInstruction (none) (none) (none) 0 &&
     shows (after [0x6D]) .awaitingFirstOperandByte (some ['A', 'D', 'C']) (none) (none) 1 &&
     shows (after Claims.undefinedOpcodes) .noInstruction (none) (none) (none) 44 &&
     shows (after [0xA9, 0x02]) .instructionComplete (some ['L', 'D', 'A']) (some 0x0002) (some ['#', '$', '0', '2']) 2 &&
     shows (after [0x6D, 0xA9, 0x6D]) .instructionComplete (some ['A', 'D', 'C']) (some 0x6DA9) (some ['$', '6', 'D', 'A', '9']) 3 &&
     shows (after [0xA9, 0x2A, 0x02]) .noInstruction (none) (none) (none) 3 &&
     shows (after [0xA9, 0x2A, 0xEA]) .instructionComplete (some ['N', 'O', 'P']) (none) (some []) 3 &&
     shows (after [0xEA, 0xEA]) .instructionComplete (some ['N', 'O', 'P']) (none) (some []) 2 &&
     shows (after [0x6D, 0x34]) .awaitingSecondOperandByte (some ['A', 'D', 'C']) (some 0x0034) (some ['$', '3', '4']) 2 &&
     shows (after [0x6D, 0x00, 0x00]) .instructionComplete (some ['A', 'D', 'C']) (some 0x0000) (some ['$', '0', '0']) 3 &&
     shows (after [0x6D, 0xFF, 0xFF]) .instructionComplete (some ['A', 'D', 'C']) (some 0xFFFF) (some ['$', 'F', 'F', 'F', 'F']) 3) = true := by decide +kernel

/-- The renderer: digit counts, every mode, relative targets and their wrap. V-T1 to V-T14. -/
theorem test_renderer_1 :
    (shows (after [0xA5, 0x00]) .instructionComplete (some ['L', 'D', 'A']) (some 0x0000) (some ['$', '0', '0']) 2 &&
     shows (after [0xAD, 0x05, 0x00]) .instructionComplete (some ['L', 'D', 'A']) (some 0x0005) (some ['$', '0', '5']) 3 &&
     shows (after [0xAD, 0x00, 0x01]) .instructionComplete (some ['L', 'D', 'A']) (some 0x0100) (some ['$', '0', '1', '0', '0']) 3 &&
     shows (after [0xAD, 0xFF, 0x00]) .instructionComplete (some ['L', 'D', 'A']) (some 0x00FF) (some ['$', 'F', 'F']) 3 &&
     shows (after [0xAD, 0x34]) .awaitingSecondOperandByte (some ['L', 'D', 'A']) (some 0x0034) (some ['$', '3', '4']) 2 &&
     shows (after [0x7C, 0x34, 0x12]) .instructionComplete (some ['J', 'M', 'P']) (some 0x1234) (some ['(', '$', '1', '2', '3', '4', ',', ' ', 'X', ')']) 3 &&
     shows (after [0x0A]) .instructionComplete (some ['A', 'S', 'L']) (none) (some [' ', 'A']) 1 &&
     shows (after [0xEA]) .instructionComplete (some ['N', 'O', 'P']) (none) (some []) 1 &&
     shows (after [0x48]) .instructionComplete (some ['P', 'H', 'A']) (none) (some []) 1 &&
     shows (after [0xA9]) .awaitingFirstOperandByte (some ['L', 'D', 'A']) (none) (none) 1 &&
     shows (after [0x02]) .noInstruction (none) (none) (none) 1 &&
     shows (after [0xF0, 0x00]) .instructionComplete (some ['B', 'E', 'Q']) (some 0x0000) (some ['$', '0', '2']) 2 &&
     shows (after [0xF0, 0x7F]) .instructionComplete (some ['B', 'E', 'Q']) (some 0x007F) (some ['$', '8', '1']) 2 &&
     shows (after [0xF0, 0x80]) .instructionComplete (some ['B', 'E', 'Q']) (some 0x0080) (some ['$', 'F', 'F', 'F', 'F', 'F', 'F', '8', '2']) 2) = true := by decide

/-- The renderer: digit counts, every mode, relative targets and their wrap. V-T15 to V-T27. -/
theorem test_renderer_2 :
    (shows (present [0xF0, 0x80] (freshAt 126)) .instructionComplete (some ['B', 'E', 'Q']) (some 0x0080) (some ['$', '0', '0']) 128 &&
     shows (present [0xF0, 0x80] (freshAt 125)) .instructionComplete (some ['B', 'E', 'Q']) (some 0x0080) (some ['$', 'F', 'F', 'F', 'F', 'F', 'F', 'F', 'F']) 127 &&
     shows (after [0xF0, 0xFE]) .instructionComplete (some ['B', 'E', 'Q']) (some 0x00FE) (some ['$', '0', '0']) 2 &&
     shows (present [0xF0, 0x05] (freshAt 252)) .instructionComplete (some ['B', 'E', 'Q']) (some 0x0005) (some ['$', '0', '1', '0', '3']) 254 &&
     shows (after [0x89, 0x00]) .instructionComplete (some ['B', 'I', 'T']) (some 0x0000) (some ['#', '$', '0', '0']) 2 &&
     shows (after [0x92, 0xFF]) .instructionComplete (some ['S', 'T', 'A']) (some 0x00FF) (some ['(', '$', 'F', 'F', ')']) 2 &&
     shows (after [0xB6, 0x10]) .instructionComplete (some ['L', 'D', 'X']) (some 0x0010) (some ['$', '1', '0', ',', ' ', 'Y']) 2 &&
     shows (after [0xB1, 0x80]) .instructionComplete (some ['L', 'D', 'A']) (some 0x0080) (some ['(', '$', '8', '0', ')', ',', ' ', 'Y']) 2 &&
     shows (after [0xA1, 0x00]) .instructionComplete (some ['L', 'D', 'A']) (some 0x0000) (some ['(', '$', '0', '0', ',', ' ', 'X', ')']) 2 &&
     shows (after [0x6C, 0xFC, 0xFF]) .instructionComplete (some ['J', 'M', 'P']) (some 0xFFFC) (some ['(', '$', 'F', 'F', 'F', 'C', ')']) 3 &&
     shows (after [0xBE, 0x00, 0x80]) .instructionComplete (some ['L', 'D', 'X']) (some 0x8000) (some ['$', '8', '0', '0', '0', ',', ' ', 'Y']) 3 &&
     shows (after [0x9D, 0x00, 0x02]) .instructionComplete (some ['S', 'T', 'A']) (some 0x0200) (some ['$', '0', '2', '0', '0', ',', ' ', 'X']) 3 &&
     shows (after [0x15, 0x0F]) .instructionComplete (some ['O', 'R', 'A']) (some 0x000F) (some ['$', '0', 'F', ',', ' ', 'X']) 2) = true := by decide

/-- A case or two of each family. V-F1 to V-F14. -/
theorem test_families_1 :
    (shows (after [0x11, 0x00]) .instructionComplete (some ['O', 'R', 'A']) (some 0x0000) (some ['(', '$', '0', '0', ')', ',', ' ', 'Y']) 2 &&
     shows (after [0x7D, 0xFF, 0xFF]) .instructionComplete (some ['A', 'D', 'C']) (some 0xFFFF) (some ['$', 'F', 'F', 'F', 'F', ',', ' ', 'X']) 3 &&
     shows (after [0x1A]) .instructionComplete (some ['I', 'N', 'C']) (none) (some [' ', 'A']) 1 &&
     shows (after [0x3A, 0x3A]) .instructionComplete (some ['D', 'E', 'C']) (none) (some [' ', 'A']) 2 &&
     shows (after [0x4A, 0xA9]) .awaitingFirstOperandByte (some ['L', 'D', 'A']) (none) (none) 2 &&
     shows (after [0xA0, 0x02]) .instructionComplete (some ['L', 'D', 'Y']) (some 0x0002) (some ['#', '$', '0', '2']) 2 &&
     shows (after [0x96, 0xFF]) .instructionComplete (some ['S', 'T', 'X']) (some 0x00FF) (some ['$', 'F', 'F', ',', ' ', 'Y']) 2 &&
     shows (after [0x9C, 0x00, 0x00]) .instructionComplete (some ['S', 'T', 'Z']) (some 0x0000) (some ['$', '0', '0']) 3 &&
     shows (after [0x80, 0xFE]) .instructionComplete (some ['B', 'R', 'A']) (some 0x00FE) (some ['$', '0', '0']) 2 &&
     shows (after [0x00, 0x00]) .instructionComplete (some ['B', 'R', 'K']) (none) (some []) 2 &&
     shows (after [0x20, 0x00, 0x80]) .instructionComplete (some ['J', 'S', 'R']) (some 0x8000) (some ['$', '8', '0', '0', '0']) 3 &&
     shows (after [0x7C, 0x00, 0x01]) .instructionComplete (some ['J', 'M', 'P']) (some 0x0100) (some ['(', '$', '0', '1', '0', '0', ',', ' ', 'X', ')']) 3 &&
     shows (after [0x40, 0x60]) .instructionComplete (some ['R', 'T', 'S']) (none) (some []) 2 &&
     shows (after [0xCB, 0xEA]) .instructionComplete (some ['N', 'O', 'P']) (none) (some []) 2) = true := by decide

/-- A case or two of each family. V-F15 to V-F21. -/
theorem test_families_2 :
    (shows (after [0xDB, 0xA9, 0x01]) .instructionComplete (some ['L', 'D', 'A']) (some 0x0001) (some ['#', '$', '0', '1']) 3 &&
     shows (after [0xDA, 0xFA]) .instructionComplete (some ['P', 'L', 'X']) (none) (some []) 2 &&
     shows (after [0x07, 0x44]) .instructionComplete (some ['R', 'M', 'B', '0']) (some 0x0044) (some ['$', '4', '4']) 2 &&
     shows (after [0xF7, 0x00]) .instructionComplete (some ['S', 'M', 'B', '7']) (some 0x0000) (some ['$', '0', '0']) 2 &&
     shows (after [0x0F, 0x12]) .instructionComplete (some ['B', 'B', 'R', '0']) (some 0x0012) (some ['$', '1', '4']) 2 &&
     shows (after [0x0F, 0x12, 0x05]) .awaitingFirstOperandByte (some ['O', 'R', 'A']) (none) (none) 3 &&
     shows (after [0xFF, 0xF0, 0x10]) .awaitingFirstOperandByte (some ['B', 'P', 'L']) (none) (none) 3) = true := by decide

/-- E4 and E5: the target N + 5 and N - 5, at N bytes consumed, the last one below zero. -/
theorem test_relative_targets :
    ((present [0xF0, 0x05] (freshAt 300)).render = some ['$', '0', '1', '3', '3'] ∧
     (present [0xF0, 0xFB] (freshAt 300)).render = some ['$', '0', '1', '2', '9'] ∧
     (present [0xF0, 0xFB] (freshAt 3)).render = some ['$', '0', '0'] ∧
     (present [0xF0, 0xFB] (freshAt 0)).render = some ['$', 'F', 'F', 'F', 'F', 'F', 'F', 'F', 'D']) := by decide

/-- R24 and D2: the counter wraps from 2^32 - 1 to 0. -/
theorem test_count_wraps : (decodeByte 0xEA (freshAt 0xFFFFFFFF)).cnt = 0 := by decide

/-- R108: the descriptor of ADC in mode ABS. -/
theorem test_descriptor : (after [0x6D]).descriptor = some ⟨0x6D, .adc, .abs, ['A', 'D', 'C'], 2⟩ := by decide

/-- R101 and R36: the ports after `6D 34`: status 2, ADC is mnemonic 0 and ABS mode 0 of R64 and R61. -/
theorem test_ports : (after [0x6D, 0x34]).ports =
    ⟨2, true, some 0x6D, some 0, some 0, some 2, true, some 0x0034, 2, some ['A', 'D', 'C'], some ['$', '3', '4']⟩ := by decide

/-- R301: the outcomes, at a boundary and inside an instruction, of a decode, a render and an access. -/
theorem test_outcomes :
    (decodeOutcome 0x02 State.reset = some .unrecognizedOpcode ∧ decodeOutcome 0x02 (after [0xA9]) = none ∧
     transactionKind 0xA9 State.reset = .newInstruction ∧ transactionKind 0x02 (after [0xA9]) = .operandByte) := by decide

/-- R303 and R304: a failing render and an absent value have their names. -/
theorem test_failures_have_names :
    State.reset.renderResult = .error .inconsistentRender ∧ accessResult State.reset.operand = .error .absentValue := ⟨rfl, rfl⟩

/-- The check refuses the empty list of bytes. -/
theorem test_ill_formed_empty : wellFormedBytes [] = false ∧ opcodeDefined [] = false ∧ operandCountFits [] = false := by decide

/-- Check 1 refuses an undefined opcode. -/
theorem test_ill_formed_opcode : opcodeDefined [0x02] = false ∧ wellFormedBytes [0x02] = false := by decide

/-- Check 2 refuses too few and too many operand bytes, of each operand count. -/
theorem test_ill_formed_count :
    operandCountFits [0xA9] = false ∧ operandCountFits [0xA9, 0x2A, 0x00] = false ∧ operandCountFits [0x6D, 0x34] = false ∧
    operandCountFits [0x6D, 0x34, 0x12, 0x00] = false ∧ operandCountFits [0xEA, 0x00] = false ∧
    operandCountFits [0x02] = false := by decide

/-- The decoder rejects by name. -/
theorem test_decoder_rejects :
    (decode [] = .error .noBytes ∧ decode [0x02, 0xA9] = .error (.undefinedOpcode 0x02) ∧
     decode [0xA9] = .error (.missingOperand 0xA9) ∧ decode [0x6D, 0x34] = .error (.missingOperand 0x6D)) := ⟨rfl, rfl, rfl, rfl⟩

/-- R62's operand bytes that a short word leaves out are zeros, and an undefined word is one discarded byte. -/
theorem test_short_words :
    decodeTableWord 8 0xAD = some (.ldaAbs 0x0000) ∧ feedOfWord 8 0xAD = [0xAD, 0x00, 0x00] ∧
    decodeTableWord 8 0x02 = none ∧ feedOfWord 8 0x02 = [0x02] := by decide

/-- A feed may break off inside an instruction, and the next one goes on: `6D 34`, then `12 A9`. -/
theorem test_feed_inside_an_instruction :
    goesTo (Host.Core.run core 2 { State.reset with input := [[0x6D, 0x34], [0x12, 0xA9]] }) (after [0x6D, 0x34, 0x12, 0xA9]) = true := by
  decide

/-! Witnesses: for each statement with hypotheses, a concrete state and operands that meet them, at the boundaries of their
ranges. `after [0xEA]` is a complete instruction, `after [0x02]` a discarded byte, `after [0xA9]` awaits its only operand
byte, `after [0x6D]` its first and `after [0x6D, 0x34]` its second. -/

theorem inv_reset : State.reset.Inv := ⟨by decide, by decide, by decide, by decide, by decide, by decide⟩
theorem inv_discarded : (after [0x02]).Inv := ⟨by decide, by decide, by decide, by decide, by decide, by decide⟩
theorem inv_complete0 : (after [0xEA]).Inv := ⟨by decide, by decide, by decide, by decide, by decide, by decide⟩
theorem inv_complete1 : (after [0xA9, 0xFF]).Inv := ⟨by decide, by decide, by decide, by decide, by decide, by decide⟩
theorem inv_complete2 : (after [0x6D, 0x34, 0x12]).Inv := ⟨by decide, by decide, by decide, by decide, by decide, by decide⟩
theorem inv_first_of_one : (after [0xA9]).Inv := ⟨by decide, by decide, by decide, by decide, by decide, by decide⟩
theorem inv_first_of_two : (after [0x6D]).Inv := ⟨by decide, by decide, by decide, by decide, by decide, by decide⟩
theorem inv_second_of_two : (after [0x6D, 0x34]).Inv := ⟨by decide, by decide, by decide, by decide, by decide, by decide⟩

theorem witness_DecodedBytesAreTheEncoding :
    decode [0xEA] = .ok (.nop, []) ∧ decode [0xA9, 0x2A, 0xEA] = .ok (.ldaImm 0x2A, [0xEA]) ∧
    decode [0x6D, 0x34, 0x12] = .ok (.adcAbs 0x1234, []) := ⟨rfl, rfl, rfl⟩

theorem witness_RomAgreesWithTheMnemonicTable : (rom 0x00).isSome = true ∧ (rom 0xFF).isSome = true := by decide

theorem witness_RomWordLayout :
    rom 0x02 = none ∧ rom 0xFC = none ∧ rom 0x00 = some (.brk, .stk) ∧ rom 0xFF = some (.bbs7, .rel) := by decide

theorem witness_ResolverBuildsTheDescriptor :
    classifyMnemonic 0x02 = none ∧ classifyAddressingMode 0x02 = none ∧
    classifyMnemonic 0x6D = some .adc ∧ classifyAddressingMode 0x6D = some .abs := by decide

/-- A boundary with DV = 0 and one with DV = 1, a byte of each kind, and the three states that fold a byte. -/
theorem witness_DecodeTransactionFollowsItsSteps :
    (after [0x02]).dv = false ∧ ((after [0xEA]).dv = true ∧ (after [0xEA]).rem = 0) ∧ resolve 0x02 = none ∧
    resolve 0xA9 = some ⟨0xA9, .lda, .imm, ['L', 'D', 'A'], 1⟩ ∧
    ((after [0xA9]).dv = true ∧ (after [0xA9]).rem.val = (0 : Fin 3).val + 1 ∧ rom (after [0xA9]).opc = some (.lda, .imm) ∧
      (after [0xA9]).rem ≤ Mode.imm.count) ∧
    ((after [0x6D]).dv = true ∧ (after [0x6D]).rem.val = (1 : Fin 3).val + 1 ∧ rom (after [0x6D]).opc = some (.adc, .abs) ∧
      (after [0x6D]).rem ≤ Mode.abs.count) ∧
    ((after [0x6D, 0x34]).dv = true ∧ (after [0x6D, 0x34]).rem.val = (0 : Fin 3).val + 1 ∧
      rom (after [0x6D, 0x34]).opc = some (.adc, .abs) ∧ (after [0x6D, 0x34]).rem ≤ Mode.abs.count) := by decide

theorem witness_UndefinedByteIsDiscarded :
    0x02 ∈ Claims.undefinedOpcodes ∧ 0xFC ∈ Claims.undefinedOpcodes ∧ State.reset.AtBoundary ∧
    (after [0x6D, 0x34, 0x12]).AtBoundary := by decide

theorem witness_OpcodeInstallsItsDescriptor :
    (after [0x02]).AtBoundary ∧ (after [0xEA]).AtBoundary ∧
    resolve 0x00 = some ⟨0x00, .brk, .stk, ['B', 'R', 'K'], 0⟩ ∧ resolve 0xFF = some ⟨0xFF, .bbs7, .rel, ['B', 'B', 'S', '7'], 1⟩ := by
  decide

theorem witness_OperandsAreLittleEndian :
    State.reset.AtBoundary ∧ resolve 0x6D = some ⟨0x6D, .adc, .abs, ['A', 'D', 'C'], 2⟩ ∧
    resolve 0xA9 = some ⟨0xA9, .lda, .imm, ['L', 'D', 'A'], 1⟩ := by decide

theorem witness_OperandByteIsFoldedNotDecoded :
    ((after [0xA9]).Inv ∧ ¬ (after [0xA9]).AtBoundary ∧ (after [0xA9]).status = .awaitingFirstOperandByte) ∧
    ((after [0x6D]).Inv ∧ ¬ (after [0x6D]).AtBoundary ∧ (after [0x6D]).status = .awaitingFirstOperandByte) ∧
    ((after [0x6D, 0x34]).Inv ∧ ¬ (after [0x6D, 0x34]).AtBoundary ∧
      (after [0x6D, 0x34]).status = .awaitingSecondOperandByte) :=
  ⟨⟨inv_first_of_one, by decide, by decide⟩, ⟨inv_first_of_two, by decide, by decide⟩,
    ⟨inv_second_of_two, by decide, by decide⟩⟩

theorem witness_StatusIsAFunctionOfTheRegisters :
    State.reset.dv = false ∧ ((after [0xEA]).dv = true ∧ (after [0xEA]).rem = 0) ∧
    (rom (after [0xA9]).opc = some (.lda, .imm) ∧ (after [0xA9]).dv = true ∧ (after [0xA9]).rem ≠ 0 ∧
      (after [0xA9]).rem = Mode.imm.count) ∧
    (rom (after [0x6D, 0x34]).opc = some (.adc, .abs) ∧ (after [0x6D, 0x34]).dv = true ∧ (after [0x6D, 0x34]).rem ≠ 0 ∧
      (after [0x6D, 0x34]).rem ≠ Mode.abs.count) := by decide

/-- An instruction of each length, from a fresh decoder and after a completed one. -/
theorem witness_StatusSequenceOfEveryInstruction :
    State.reset.AtBoundary ∧ (after [0x6D, 0x34, 0x12]).AtBoundary ∧ (encode .brk).length = 1 ∧
    (encode (.bbs7 0xF0)).length = 2 ∧ (encode (.jsr 0x8000)).length = 3 := by decide

theorem witness_EveryByteIsCounted : ([] : List Byte).length < 2 ^ 32 ∧ Claims.undefinedOpcodes.length < 2 ^ 32 := by decide

theorem witness_EveryStepKeepsTheRegisterInvariant :
    ({ after [0x6D] with input := [[0x34]] } : State).Inv ∧
    step { after [0x6D] with input := [[0x34]] } = .next (after [0x6D, 0x34]) ∧
    (after [0x6D, 0x34]).Inv ∧ step (after [0x6D, 0x34]) = .next (after [0x6D, 0x34]) :=
  ⟨⟨by decide, by decide, by decide, by decide, by decide, by decide⟩, rfl, inv_second_of_two, rfl⟩

theorem witness_EveryReachableStateSatisfiesTheInvariant :
    (present [0x6D] State.reset).rem ≠ 0 ∧ (present [0xA9] State.reset).rem ≠ 0 := by decide

theorem witness_AccessorsReadTheDescriptor :
    (after [0x02]).dv = false ∧ ((after [0x6D]).dv = true ∧ rom (after [0x6D]).opc = some (.adc, .abs)) ∧
    (after [0x02]).Inv ∧ (after [0x6D]).Inv := ⟨by decide, by decide, inv_discarded, inv_first_of_two⟩

theorem witness_OperandIsPresentByStatus :
    (State.reset.Inv ∧ State.reset.status = .noInstruction) ∧
    ((after [0x6D]).Inv ∧ (after [0x6D]).status = .awaitingFirstOperandByte) ∧
    ((after [0xEA]).Inv ∧ (after [0xEA]).status = .instructionComplete ∧ (after [0xEA]).expectedCount = 0) ∧
    ((after [0xA9, 0xFF]).Inv ∧ (after [0xA9, 0xFF]).status = .instructionComplete ∧ (after [0xA9, 0xFF]).expectedCount ≠ 0) ∧
    ((after [0x6D, 0x34]).Inv ∧ (after [0x6D, 0x34]).status = .awaitingSecondOperandByte) :=
  ⟨⟨inv_reset, by decide⟩, ⟨inv_first_of_two, by decide⟩, ⟨inv_complete0, by decide, by decide⟩,
    ⟨inv_complete1, by decide, by decide⟩, ⟨inv_second_of_two, by decide⟩⟩

/-- The clause of an operand where none is expected is met only in a state that no run reaches; the others are reached. -/
theorem witness_RenderFailsExactlyOnItsConditions :
    State.reset.dv = false ∧
    (({ after [0xEA] with ov := true } : State).dv = true ∧
      rom ({ after [0xEA] with ov := true } : State).opc = some (.nop, .imp) ∧
      ({ after [0xEA] with ov := true } : State).ov = true ∧ Mode.imp.count = 0) ∧
    ((after [0xA9]).dv = true ∧ rom (after [0xA9]).opc = some (.lda, .imm) ∧ (after [0xA9]).ov = false ∧ Mode.imm.count ≠ 0) ∧
    ((after [0xA9, 0x2A]).dv = true ∧ rom (after [0xA9, 0x2A]).opc = some (.lda, .imm) ∧ (after [0xA9, 0x2A]).ov = true) ∧
    ((after [0xEA]).dv = true ∧ rom (after [0xEA]).opc = some (.nop, .imp) ∧ (after [0xEA]).ov = false) := by decide

theorem witness_RenderByStatus :
    (State.reset.Inv ∧ State.reset.status = .noInstruction) ∧
    ((after [0xA9]).Inv ∧ (after [0xA9]).status = .awaitingFirstOperandByte) ∧
    ((after [0x6D, 0x34]).Inv ∧ (after [0x6D, 0x34]).addressingMode = some .abs ∧
      (after [0x6D, 0x34]).status = .awaitingSecondOperandByte) ∧
    ((after [0xEA]).Inv ∧ (after [0xEA]).addressingMode = some .imp ∧ (after [0xEA]).status = .instructionComplete ∧
      Mode.imp.count = 0) ∧
    ((after [0x6D, 0x34, 0x12]).Inv ∧ (after [0x6D, 0x34, 0x12]).addressingMode = some .abs ∧
      (after [0x6D, 0x34, 0x12]).status = .instructionComplete ∧ Mode.abs.count ≠ 0) :=
  ⟨⟨inv_reset, by decide⟩, ⟨inv_first_of_one, by decide⟩, ⟨inv_second_of_two, by decide, by decide⟩,
    ⟨inv_complete0, by decide, by decide, by decide⟩, ⟨inv_complete2, by decide, by decide, by decide⟩⟩

/-- Values on both sides of each digit boundary, and the state of the last clause. -/
theorem witness_HexTextIsTheValueInByteGroups :
    (255 : Count).toNat < 2 ^ (8 * 1) ∧ ¬ (256 : Count).toNat < 2 ^ (8 * 1) ∧ (256 : Count).toNat < 2 ^ (8 * 2) ∧
    ¬ (65536 : Count).toNat < 2 ^ (8 * 2) ∧ (0xFFFFFFFF : Count).toNat < 2 ^ (8 * 4) ∧
    ((after [0x0A]).ov = false ∧ (after [0x0A]).addressingMode = some .acc ∧ (after [0x0A]).render = some [' ', 'A']) := by
  decide

/-- R133 and R101: 10 characters are reached, and mnemonic texts of 3 and 4. -/
theorem witness_TextsFitTheirPorts :
    (after [0x7C, 0x34, 0x12]).render = some ['(', '$', '1', '2', '3', '4', ',', ' ', 'X', ')'] ∧
    (after [0x7C]).mnemonicText = some ['J', 'M', 'P'] ∧ (after [0x0F]).mnemonicText = some ['B', 'B', 'R', '0'] := by decide

theorem witness_RelativeTargetArithmetic :
    (((after [0xF0, 0xFB]).cnt.toNat : Int) + (loByte (after [0xF0, 0xFB]).opnd).toInt = -3) ∧
    ((freshAt 0xFFFFFFFF).cnt.toNat : Int) + (0x7F : Byte).toInt ≥ 2 ^ 32 ∧ Mode.abs ≠ .rel := by decide

/-- A branch and BRA at two boundaries; E5's target N - 5 at base 0x8000, from a stream that starts there. -/
theorem witness_TargetPlusBaseIsTheBranchTarget :
    (Claims.branchForms.map (·.1) = [0x10, 0x30, 0x50, 0x70, 0x90, 0xB0, 0xD0, 0xF0, 0x80]) ∧
    (Claims.branchForms.map fun f => encode (f.2 0xFB)) =
      [[0x10, 0xFB], [0x30, 0xFB], [0x50, 0xFB], [0x70, 0xFB], [0x90, 0xFB], [0xB0, 0xFB], [0xD0, 0xFB], [0xF0, 0xFB], [0x80, 0xFB]] ∧
    State.reset.AtBoundary ∧ (after [0x6D, 0x34, 0x12]).AtBoundary ∧
    ((0x8000 : Count) + (after [0xF0, 0xFB]).display .rel).setWidth 16 = (0x7FFD : BitVec 16) := by decide

/-- An opcode of each operand count, after a reset, a discarded byte and an instruction that left an operand. -/
theorem witness_OpcodeByteLeavesTheOperandAbsent :
    State.reset.AtBoundary ∧ (after [0x02]).AtBoundary ∧ (after [0x6D, 0x34, 0x12]).AtBoundary ∧
    (after [0x6D, 0x34, 0x12]).ov = true ∧
    resolve 0xEA = some ⟨0xEA, .nop, .imp, ['N', 'O', 'P'], 0⟩ ∧
    resolve 0xA9 = some ⟨0xA9, .lda, .imm, ['L', 'D', 'A'], 1⟩ ∧
    resolve 0x6D = some ⟨0x6D, .adc, .abs, ['A', 'D', 'C'], 2⟩ := by decide

theorem witness_DigitCountFollowsTheValue :
    classifyAddressingMode 0xAD = some .abs ∧ classifyAddressingMode 0xA5 = some .zp ∧
    State.reset.AtBoundary ∧ (after [0xEA]).AtBoundary := by decide

/-- A pending feed in a boundary state and in one inside an instruction. -/
theorem witness_StepIsTheTransactionsOfItsFeed :
    ({ State.reset with input := [[0xA9, 0x2A, 0x02]] } : State).input = [0xA9, 0x2A, 0x02] :: [] ∧
    ({ after [0x6D] with input := [[0x34], []] } : State).input = [0x34] :: [[]] := by decide

theorem witness_ParkedWithoutInput : State.reset.input = [] ∧ (after [0x6D, 0x34]).input = [] := by decide

theorem witness_StepRunsTheDecodedInstruction :
    ({ State.reset with input := [[0xA9, 0x2A, 0xEA], [0x02]] } : State).AtBoundary ∧
    ({ State.reset with input := [[0xA9, 0x2A, 0xEA], [0x02]] } : State).input = [0xA9, 0x2A, 0xEA] :: [[0x02]] ∧
    decode [0xA9, 0x2A, 0xEA] = .ok (.ldaImm 0x2A, [0xEA]) ∧ decode [0xA9, 0x2A] = .ok (.ldaImm 0x2A, []) ∧
    exec (.ldaImm 0x2A) { State.reset with input := [[0x02]] } =
      .next { dv := true, opc := 0xA9, ov := true, opnd := 0x002A, rem := 0, cnt := 2, input := [[0x02]] } :=
  ⟨by decide, rfl, rfl, rfl, rfl⟩

/-- A complete instruction and discarded bytes behind the same count. -/
theorem witness_NextInstructionOverwritesThePrevious :
    (after [0x6D, 0x34, 0x12]).AtBoundary ∧ (after [0x02, 0x02, 0x02]).AtBoundary ∧
    (after [0x6D, 0x34, 0x12]).cnt = (after [0x02, 0x02, 0x02]).cnt := by decide

theorem witness_AbsentRegistersAreNotObservable :
    (State.reset.Inv ∧ State.reset.dv = false) ∧ ((after [0x02]).Inv ∧ (after [0x02]).dv = false) ∧
    (after [0x6D]).ov = false := ⟨⟨inv_reset, by decide⟩, ⟨inv_discarded, by decide⟩, by decide⟩

theorem witness_UnrecognizedOpcodeShowsAsNoInstruction :
    (State.reset.Inv ∧ State.reset.AtBoundary ∧ rom 0x02 = none ∧ rom 0xA9 ≠ none) ∧
    ((after [0xA9]).Inv ∧ ¬ (after [0xA9]).AtBoundary) := ⟨⟨inv_reset, by decide⟩, ⟨inv_first_of_one, by decide⟩⟩

theorem witness_PortsCarryTheOutputs :
    State.reset.dv = false ∧ ((after [0x6D]).dv = true ∧ rom (after [0x6D]).opc = some (.adc, .abs)) := by decide

theorem witness_InstructionStreamDecodesInOrder :
    State.reset.AtBoundary ∧ (after [0xA9, 0x2A]).AtBoundary ∧ ([.ldaImm 0x2A, .staAbs 0x0200] : List Instr) ≠ [] := by decide

/-! The families: a boundary state and operands of the two-byte form, and an instruction of the family completing there. -/

theorem witness_AluGroupForms :
    (after [0x02]).AtBoundary ∧ (0x0200 : Operand) = ((0x02 : Byte).setWidth 16 <<< 8) ||| (0x00 : Byte).setWidth 16 ∧
    exec (.staAbsX 0x0200) (after [0x02]) =
      .next { dv := true, opc := 0x9D, ov := true, opnd := 0x0200, rem := 0, cnt := 4, input := [] } := ⟨by decide, by decide, rfl⟩

theorem witness_ShiftIncrementDecrementForms :
    (after [0x02]).AtBoundary ∧ (0xFFFF : Operand) = ((0xFF : Byte).setWidth 16 <<< 8) ||| (0xFF : Byte).setWidth 16 ∧
    exec (.incAbsX 0xFFFF) (after [0x02]) =
      .next { dv := true, opc := 0xFE, ov := true, opnd := 0xFFFF, rem := 0, cnt := 4, input := [] } := ⟨by decide, by decide, rfl⟩

theorem witness_IndexAndBitTestForms :
    (after [0x02]).AtBoundary ∧ (0x8000 : Operand) = ((0x80 : Byte).setWidth 16 <<< 8) ||| (0x00 : Byte).setWidth 16 ∧
    exec (.ldxAbsY 0x8000) (after [0x02]) =
      .next { dv := true, opc := 0xBE, ov := true, opnd := 0x8000, rem := 0, cnt := 4, input := [] } := ⟨by decide, by decide, rfl⟩

theorem witness_BranchForms :
    (after [0x02]).AtBoundary ∧
    exec (.beq 0x80) (after [0x02]) =
      .next { dv := true, opc := 0xF0, ov := true, opnd := 0x0080, rem := 0, cnt := 3, input := [] } := ⟨by decide, rfl⟩

theorem witness_JumpAndReturnForms :
    (after [0x02]).AtBoundary ∧ (0x0100 : Operand) = ((0x01 : Byte).setWidth 16 <<< 8) ||| (0x00 : Byte).setWidth 16 ∧
    exec (.jmpAbsXInd 0x0100) (after [0x02]) =
      .next { dv := true, opc := 0x7C, ov := true, opnd := 0x0100, rem := 0, cnt := 4, input := [] } := ⟨by decide, by decide, rfl⟩

theorem witness_FlagInstructionForms :
    (after [0x02]).AtBoundary ∧
    exec (.sed) (after [0x02]) =
      .next { dv := true, opc := 0xF8, ov := false, opnd := 0x0000, rem := 0, cnt := 2, input := [] } := ⟨by decide, rfl⟩

theorem witness_IndexAndTransferForms :
    (after [0x02]).AtBoundary ∧
    exec (.txs) (after [0x02]) =
      .next { dv := true, opc := 0x9A, ov := false, opnd := 0x0000, rem := 0, cnt := 2, input := [] } := ⟨by decide, rfl⟩

theorem witness_NopWaitStopForms :
    (after [0x02]).AtBoundary ∧
    exec (.stp) (after [0x02]) =
      .next { dv := true, opc := 0xDB, ov := false, opnd := 0x0000, rem := 0, cnt := 2, input := [] } := ⟨by decide, rfl⟩

theorem witness_PushAndPullForms :
    (after [0x02]).AtBoundary ∧
    exec (.plx) (after [0x02]) =
      .next { dv := true, opc := 0xFA, ov := false, opnd := 0x0000, rem := 0, cnt := 2, input := [] } := ⟨by decide, rfl⟩

theorem witness_ResetMemoryBitForms :
    (after [0x02]).AtBoundary ∧
    exec (.rmb0 0x44) (after [0x02]) =
      .next { dv := true, opc := 0x07, ov := true, opnd := 0x0044, rem := 0, cnt := 3, input := [] } := ⟨by decide, rfl⟩

theorem witness_SetMemoryBitForms :
    (after [0x02]).AtBoundary ∧
    exec (.smb7 0x00) (after [0x02]) =
      .next { dv := true, opc := 0xF7, ov := true, opnd := 0x0000, rem := 0, cnt := 3, input := [] } := ⟨by decide, rfl⟩

theorem witness_BranchOnBitResetForms :
    (after [0x02]).AtBoundary ∧
    exec (.bbr0 0x12) (after [0x02]) =
      .next { dv := true, opc := 0x0F, ov := true, opnd := 0x0012, rem := 0, cnt := 3, input := [] } := ⟨by decide, rfl⟩

theorem witness_BranchOnBitSetForms :
    (after [0x02]).AtBoundary ∧
    exec (.bbs7 0xF0) (after [0x02]) =
      .next { dv := true, opc := 0xFF, ov := true, opnd := 0x00F0, rem := 0, cnt := 3, input := [] } := ⟨by decide, rfl⟩

end Sys2Proof.Tests
end

section
/-! What the outputs show of an absent descriptor or operand, and what a list of transactions does to the counter. -/

namespace Sys2Proof.Machine

theorem status_of_dv_false {s : State} (h : s.dv = false) : s.status = .noInstruction := if_pos h

theorem descriptor_of_dv_false {s : State} (h : s.dv = false) : s.descriptor = none := if_pos h

theorem mnemonic_of_dv_false {s : State} (h : s.dv = false) : s.mnemonic = none := if_pos h

theorem addressingMode_of_dv_false {s : State} (h : s.dv = false) : s.addressingMode = none := if_pos h

theorem opcodeByte_of_dv_false {s : State} (h : s.dv = false) : s.opcodeByte = none := if_pos h

theorem mnemonicText_of_dv_false {s : State} (h : s.dv = false) : s.mnemonicText = none := if_pos h

theorem render_of_dv_false {s : State} (h : s.dv = false) : s.render = none := if_pos h

theorem operand_of_ov_false {s : State} (h : s.ov = false) : s.operand = none := if_pos h

theorem descriptor_of_rom {s : State} {m : Mnemonic} {md : Mode} (hdv : s.dv = true) (hr : rom s.opc = some (m, md)) :
    s.descriptor = some ⟨s.opc, m, md, m.text, md.count⟩ := by simp [State.descriptor, hdv, hr]

/-- Without a descriptor the ports show the operand and the byte count only. -/
theorem ports_of_dv_false {s : State} (h : s.dv = false) :
    s.ports = ⟨Status.noInstruction.code, false, none, none, none, none, s.ov, s.operand, s.cnt, none, none⟩ := by
  simp [State.ports, State.totalBytes, h, status_of_dv_false h, descriptor_of_dv_false h, mnemonic_of_dv_false h,
    addressingMode_of_dv_false h, opcodeByte_of_dv_false h, mnemonicText_of_dv_false h, render_of_dv_false h]

/-- The renderer reads `OPND` only where an operand is present. -/
theorem render_withOpnd_of_ov_false {s : State} (h : s.ov = false) (x : Operand) :
    State.render { s with opnd := x } = s.render := by simp [State.render, h]

theorem ports_withOpnd_of_ov_false {s : State} (h : s.ov = false) (x : Operand) :
    State.ports { s with opnd := x } = s.ports := by
  have hop : State.operand { s with opnd := x } = s.operand := by
    rw [operand_of_ov_false h, operand_of_ov_false (s := { s with opnd := x }) h]
  simp only [State.ports, hop, render_withOpnd_of_ov_false h]
  rfl

/-- A byte that starts an instruction overwrites `OPC`, or discards and leaves no descriptor (R103). -/
theorem decodeByte_withOpc_of_dv_false {s : State} (h : s.dv = false) (x b : Byte) :
    decodeByte b { s with opc := x } = decodeByte b s ∨
    ((decodeByte b s).dv = false ∧ decodeByte b { s with opc := x } = { decodeByte b s with opc := x }) := by
  have hx : State.AtBoundary { s with opc := x } := .inl h
  rw [decodeByte_of_boundary hx, decodeByte_of_boundary (.inl h)]
  cases hr : resolve b with
  | none => exact .inr (by simp [startInstruction, hr, State.discard, State.countByte])
  | some d => exact .inl (by simp [startInstruction, hr, State.install, State.countByte])

theorem ports_present_withOpc_of_dv_false (bs : List Byte) {s : State} (h : s.dv = false) (x : Byte) :
    (present bs { s with opc := x }).ports = (present bs s).ports := by
  induction bs generalizing s with
  | nil => simp [ports_of_dv_false, h, State.operand]
  | cons b bs ih =>
    obtain he | ⟨hdv, he⟩ := decodeByte_withOpc_of_dv_false h x b
    · simp [he]
    · simpa [he] using ih hdv

/-- Every transaction of a list counts its byte, modulo 2^32 (R24, D2). -/
theorem present_cnt (bs : List Byte) (s : State) : (present bs s).cnt = s.cnt + BitVec.ofNat 32 bs.length := by
  induction bs generalizing s with
  | nil => simp
  | cons b bs ih => simp [ih, BitVec.ofNat_add, BitVec.add_assoc, BitVec.add_comm 1#32]

theorem present_cnt_toNat (bs : List Byte) (s : State) :
    (present bs s).cnt.toNat = (s.cnt.toNat + bs.length) % 2 ^ 32 := by
  simp [present_cnt, BitVec.toNat_add]

end Sys2Proof.Machine
end

section
/-! The register invariant (R22, R26): it holds at reset, and each of the three things a transaction can do keeps it. -/

namespace Sys2Proof.Machine

theorem State.Inv.of_noDescriptor {s : State} (hdv : s.dv = false) (hov : s.ov = false) (hopnd : s.opnd = 0)
    (hrem : s.rem = 0) : s.Inv where
  empty _ := ⟨hrem, hov⟩
  resolves h := by simp [hdv] at h
  present := by simp [hdv, hov]
  oneByte h := by simp [hov] at h
  firstOfTwo h := by simp [hov] at h
  cleared _ := hopnd

/-- A descriptor none of whose operand bytes has come yet. -/
theorem State.Inv.of_noOperand {s : State} {m : Mnemonic} {md : Mode} (hdv : s.dv = true)
    (hr : rom s.opc = some (m, md)) (hov : s.ov = false) (hopnd : s.opnd = 0) (hrem : s.rem = md.count) : s.Inv where
  empty h := by simp [hdv] at h
  resolves _ := by simp [hr, expectedCount_of_rom hr, hrem]
  present := by simp [hov, expectedCount_of_rom hr, hrem]
  oneByte h := by simp [hov] at h
  firstOfTwo h := by simp [hov] at h
  cleared _ := hopnd

/-- A descriptor with at least one of its operand bytes folded in; with just one, the high byte is clear. -/
theorem State.Inv.of_operand {s : State} {m : Mnemonic} {md : Mode} (hdv : s.dv = true)
    (hr : rom s.opc = some (m, md)) (hov : s.ov = true) (hrem : s.rem < md.count)
    (hhi : md.count = 1 ∨ s.rem = 1 → hiByte s.opnd = 0) : s.Inv where
  empty h := by simp [hdv] at h
  resolves _ := by simp [hr, expectedCount_of_rom hr, hrem.le]
  present := by simp [hdv, hov, expectedCount_of_rom hr, hrem, Fin.ne_zero_of_lt hrem]
  oneByte _ hc := hhi (.inl (expectedCount_of_rom hr ▸ hc))
  firstOfTwo _ _ h1 := hhi (.inr h1)
  cleared h := by simp [hov] at h

theorem State.Inv.reset : State.reset.Inv := .of_noDescriptor rfl rfl rfl rfl

theorem State.Inv.discard (s : State) : s.discard.Inv := .of_noDescriptor rfl rfl rfl rfl

theorem State.Inv.install {b : Byte} {d : Descriptor} (h : resolve b = some d) (s : State) : (s.install d).Inv := by
  obtain ⟨m, md, hr, rfl⟩ := resolve_eq_some.1 h
  exact .of_noOperand rfl hr rfl rfl rfl

theorem State.Inv.countByte {s : State} (h : s.Inv) : s.countByte.Inv :=
  ⟨h.empty, h.resolves, h.present, h.oneByte, h.firstOfTwo, h.cleared⟩

theorem State.Inv.withInput {s : State} (h : s.Inv) (feeds : List (List Byte)) : State.Inv { s with input := feeds } :=
  ⟨h.empty, h.resolves, h.present, h.oneByte, h.firstOfTwo, h.cleared⟩

/-- The first fold, into a cleared operand, writes the low byte only. -/
theorem fold_opnd_of_firstByte {s : State} (hopnd : s.opnd = 0) (hrem : s.rem = s.expectedCount) (b : Byte) :
    (s.fold b).opnd = zext16 b := by
  simp [foldPosition_of_le hrem.le, hrem, hopnd]

/-- Inside an instruction a fold awaits one byte less, and after the first of the operand bytes the high one is clear. -/
theorem State.Inv.fold {s : State} (hi : s.Inv) (hn : ¬ s.AtBoundary) (b : Byte) : (s.fold b).Inv := by
  obtain ⟨m, md, hr, hdv, ⟨hc, hrem, -, hopnd⟩ | ⟨hc, hrem, -, hopnd⟩ | ⟨hc, hrem, -, -⟩⟩ := hi.inside hn
  all_goals have he := expectedCount_of_rom hr
  · refine .of_operand hdv hr rfl (by simp [hrem, hc, decRem]) fun _ => ?_
    rw [fold_opnd_of_firstByte hopnd (by simp [he, hc, hrem]), hiByte_zext16]
  · refine .of_operand hdv hr rfl (by simp [hrem, hc, decRem]) fun _ => ?_
    rw [fold_opnd_of_firstByte hopnd (by simp [he, hc, hrem]), hiByte_zext16]
  · exact .of_operand hdv hr rfl (by simp [hrem, hc, decRem]) (by simp [hrem, hc, decRem])

/-- Every transaction keeps the register invariant. -/
theorem State.Inv.decodeByte {s : State} (hi : s.Inv) (b : Byte) : (decodeByte b s).Inv := by
  obtain ⟨-, -, h⟩ | ⟨d, -, hr, h⟩ | ⟨hn, h⟩ := decodeByte_cases b s
  · exact h ▸ .discard _
  · exact h ▸ .install hr _
  · exact h ▸ hi.countByte.fold hn b

theorem State.Inv.presentBytes {s : State} (hi : s.Inv) (bs : List Byte) : (Machine.present bs s).Inv := by
  induction bs generalizing s with
  | nil => exact hi
  | cons b bs ih => exact ih (hi.decodeByte b)

/-- A byte is awaited only with a descriptor (R25). -/
theorem State.Inv.descriptor_isSome {s : State} (hi : s.Inv) (h : s.rem ≠ 0) : s.descriptor.isSome = true := by
  obtain ⟨m, md, hr, hdv, -⟩ := hi.inside fun hb => hb.elim (fun hdv => h (hi.empty hdv).1) h
  simp [descriptor_of_rom hdv hr]

end Sys2Proof.Machine
end

section
/-! A step is a list of transactions: `exec` of an instruction presents its encoding, and so a feed presents bytes. -/

namespace Sys2Proof.Machine

/-- The meaning of every instruction is the transactions of its bytes, in any state (R60, R102, R117). -/
theorem exec_eq_present_encode (i : Instr) (s : State) : exec i s = .next (present (encode i) s) := by
  cases i <;> rfl

theorem runFeed_eq_present (feed : List Byte) (s : State) : ∃ bs, runFeed feed s = .next (present bs s) := by
  obtain ⟨-, h⟩ | ⟨-, -, -, h⟩ | ⟨i, more, -, -, h⟩ := runFeed_cases feed s
  · exact ⟨feed, h⟩
  · exact ⟨feed, h⟩
  · exact ⟨encode i ++ more, by rw [h _ (exec_eq_present_encode i s), present_append]⟩

/-- A step only drops pending feeds and presents bytes; with no feed it presents none (R116). -/
theorem step_eq_present (s : State) : ∃ bs feeds, step s = .next (present bs { s with input := feeds }) := by
  cases h : s.input with
  | nil => exact ⟨[], s.input, by simp [step, takeFeed_nil h]⟩
  | cons feed rest =>
    obtain ⟨bs, hbs⟩ := runFeed_eq_present feed { s with input := rest }
    exact ⟨bs, rest, by rw [step_of_feed h, hbs]⟩

end Sys2Proof.Machine
end

section
/-! The fields of a ROM word (R32). -/

namespace Sys2Proof

theorem romWord_of_noMatch {b : Byte} (h : rom b = none) : romWord b = 0 := by simp [romWord, h]

theorem romWord_of_rom {b : Byte} {m : Mnemonic} {md : Mode} (h : rom b = some (m, md)) :
    romWord b = 1#1 ++ m.id ++ md.id := by simp [romWord, h]

section
variable {b : Byte} {m : Mnemonic} {md : Mode} (h : rom b = some (m, md))
include h

theorem romWord_validBit : (romWord b).getLsbD 11 = true := by
  rw [romWord_of_rom h, BitVec.getLsbD_append, BitVec.getLsbD_append]
  rfl

theorem romWord_mnemonicId : (romWord b).extractLsb' 4 7 = m.id := by
  rw [romWord_of_rom h]
  exact (BitVec.extractLsb'_append_eq_of_le le_rfl).trans BitVec.extractLsb'_append_eq_right

theorem romWord_modeId : (romWord b).extractLsb' 0 4 = md.id := by
  rw [romWord_of_rom h]
  exact BitVec.extractLsb'_append_eq_right

end

end Sys2Proof
end

section
/-! The statements of the family 10_state. -/

namespace Sys2Proof.Claims

open Sys2Proof.Machine

/-- Settles O22: a step is a list of transactions, and each of them keeps the invariant. -/
theorem everyStepKeepsTheRegisterInvariant : Obligations.EveryStepKeepsTheRegisterInvariant := by
  intro s t hi hstep
  obtain ⟨bs, feeds, h⟩ := step_eq_present s
  obtain rfl : present bs { s with input := feeds } = t := by simpa [h] using hstep
  exact (hi.withInput feeds).presentBytes bs

/-- Settles O20, by induction on the bytes (`present_cnt`). -/
theorem everyByteIsCounted : Obligations.EveryByteIsCounted := by
  refine ⟨present_cnt_toNat, fun bs hlen => ?_⟩
  calc (present bs State.reset).cnt.toNat
      = (0 + bs.length) % 2 ^ 32 := present_cnt_toNat bs State.reset
    _ = bs.length := by rw [Nat.zero_add, Nat.mod_eq_of_lt hlen]

/-- Settles O23: the invariant holds at reset and every transaction keeps it. -/
theorem everyReachableStateSatisfiesTheInvariant : Obligations.EveryReachableStateSatisfiesTheInvariant := fun bs =>
  have hi := State.Inv.reset.presentBytes bs
  ⟨hi, hi.descriptor_isSome⟩

/-- Settles O42: the next byte overwrites or keeps hidden an absent `OPC`, and no output reads an absent `OPND`. -/
theorem absentRegistersAreNotObservable : Obligations.AbsentRegistersAreNotObservable :=
  ⟨fun _ x bs _ hdv => ports_present_withOpc_of_dv_false bs hdv x, fun _ x hov => ports_withOpnd_of_ov_false hov x⟩

/-- Settles O11: a word without a match is 0, and the fields of any other are the parts it is put together from. -/
theorem romWordLayout : Obligations.RomWordLayout := fun _ =>
  ⟨romWord_of_noMatch, fun _ _ h => ⟨romWord_validBit h, romWord_mnemonicId h, romWord_modeId h⟩⟩

/-- Settles O21: a fresh decoder holds no descriptor, no operand and awaits nothing. -/
theorem registerInvariantHoldsAtReset : Obligations.RegisterInvariantHoldsAtReset := State.Inv.reset

/-- Settles O24: at reset `DV` and `OV` are 0, so every optional output is absent. -/
theorem resetRegistersAndOutputs : Obligations.ResetRegistersAndOutputs :=
  ⟨rfl, status_of_dv_false rfl, descriptor_of_dv_false rfl, mnemonic_of_dv_false rfl, addressingMode_of_dv_false rfl,
    opcodeByte_of_dv_false rfl, operand_of_ov_false rfl, mnemonicText_of_dv_false rfl, render_of_dv_false rfl, rfl⟩

end Sys2Proof.Claims
end

section
/-! The statements of the family 20_memory. -/

namespace Sys2Proof.Claims

open Sys2Proof.Machine

/-- Settles O16: the states after the first and the second operand byte (`decodeByte_firstOperand`,
`decodeByte_secondOperand`) hold the operand R43 gives. -/
theorem operandsAreLittleEndian : Obligations.OperandsAreLittleEndian := by
  intro o b1 b2 d s hb hd
  obtain ⟨m, md, hr, rfl⟩ := resolve_eq_some.1 hd
  refine ⟨fun (hc : md.count = 2) => ?_, fun (hc : md.count = 1) => ?_⟩
  · exact congrArg State.opnd (decodeByte_secondOperand hb hr hc b1 b2)
  · exact congrArg State.opnd (decodeByte_firstOperand hb hr (by simp [hc]) b1)

end Sys2Proof.Claims
end

section
/-! A row of the decoder's table as a relation between operand bytes and the instruction, and what the decoder and the
encoder do in terms of it (R43, R60). -/

namespace Sys2Proof

open DecodeTable

/-- The number of operand bytes of a table row: its format F0, F1 or F2 (R60). -/
def Shape.operandCount : Shape → Fin 3
  | .op0 _ => 0
  | .op1 _ => 1
  | .op2 _ => 2

/-- The instruction a table row makes of its operand bytes, low byte first (R43). -/
inductive Shape.Makes : Shape → List Byte → Instr → Prop where
  | op0 (i : Instr) : Makes (.op0 i) [] i
  | op1 (f : Byte → Instr) (b1 : Byte) : Makes (.op1 f) [b1] (f b1)
  | op2 (f : Operand → Instr) (v : Operand) : Makes (.op2 f) [loByte v, hiByte v] (f v)

theorem Shape.Makes.length_eq {sh : Shape} {ops : List Byte} {i : Instr} (h : sh.Makes ops i) :
    ops.length = sh.operandCount.val := by cases h <;> rfl

theorem Shape.Makes.join (f : Operand → Instr) (b1 b2 : Byte) :
    Shape.Makes (.op2 f) [b1, b2] (f (joinBytes b2 b1)) := by
  simpa using Shape.Makes.op2 f (joinBytes b2 b1)

/-- The three answers of the decoder to a first byte and the bytes after it. -/
theorem decode_cases (o : Byte) (bs : List Byte) :
    (entry o = none ∧ decode (o :: bs) = .error (.undefinedOpcode o)) ∨
    (∃ sh, entry o = some sh ∧ bs.length < sh.operandCount.val ∧ decode (o :: bs) = .error (.missingOperand o)) ∨
    (∃ sh ops i rest, entry o = some sh ∧ sh.Makes ops i ∧ bs = ops ++ rest ∧ decode (o :: bs) = .ok (i, rest)) := by
  cases h : entry o with
  | none => exact .inl ⟨rfl, decode_of_noEntry h bs⟩
  | some sh =>
    refine .inr ?_
    cases sh with
    | op0 i => exact .inr ⟨_, _, i, bs, rfl, .op0 i, rfl, decode_of_op0 h bs⟩
    | op1 f =>
      match bs with
      | [] => exact .inl ⟨_, rfl, Nat.one_pos, decode_of_op1_short h⟩
      | b1 :: rest => exact .inr ⟨_, _, _, rest, rfl, .op1 f b1, rfl, decode_of_op1 h b1 rest⟩
    | op2 f =>
      match bs with
      | [] => exact .inl ⟨_, rfl, Nat.two_pos, decode_of_op2_short h Nat.two_pos⟩
      | [_] => exact .inl ⟨_, rfl, Nat.one_lt_two, decode_of_op2_short h Nat.one_lt_two⟩
      | b1 :: b2 :: rest => exact .inr ⟨_, _, _, rest, rfl, .join f b1 b2, rfl, decode_of_op2 h b1 b2 rest⟩

theorem decode_of_makes {o : Byte} {sh : Shape} {ops : List Byte} {i : Instr} (he : entry o = some sh)
    (hm : sh.Makes ops i) (rest : List Byte) : decode (o :: ops ++ rest) = .ok (i, rest) := by
  cases hm with
  | op0 => exact decode_of_op0 he rest
  | op1 f b1 => exact decode_of_op1 he b1 rest
  | op2 f v => simpa using decode_of_op2 he (loByte v) (hiByte v) rest

/-- The encoder writes the opcode of a row that makes the instruction of the operand bytes after it. -/
theorem exists_makes_of_encode (i : Instr) :
    ∃ o sh ops, encode i = o :: ops ∧ entry o = some sh ∧ sh.Makes ops i := by
  cases i <;> exact ⟨_, _, _, rfl, rfl, by constructor⟩

/-- What a row makes of operand bytes is encoded as the row's opcode and those bytes: a walk over the 256 entries. -/
theorem encode_of_makes {o : Byte} {sh : Shape} {ops : List Byte} {i : Instr} (he : entry o = some sh)
    (hm : sh.Makes ops i) : encode i = o :: ops := by
  obtain ⟨⟨n, hn⟩⟩ := o
  change n < 256 at hn
  interval_cases n <;> cases he <;> cases hm <;> rfl

theorem decode_eq_undefined_iff {o : Byte} {bs : List Byte} :
    decode (o :: bs) = .error (.undefinedOpcode o) ↔ entry o = none := by
  obtain ⟨he, hd⟩ | ⟨sh, he, -, hd⟩ | ⟨sh, ops, i, rest, he, -, -, hd⟩ := decode_cases o bs <;> simp [he, hd]

end Sys2Proof
end

section
/-! The opcode ROM cell by cell: against the decoder's table, against the lists of R66 and R64, and counted. The cells are
checked row by row. -/

namespace Sys2Proof

open DecodeTable

theorem resolve_eq_none_iff {b : Byte} : resolve b = none ↔ rom b = none := by
  cases h : rom b with
  | none => simp [resolve_of_noMatch h]
  | some c => simp [resolve_of_rom h]

theorem classifyMnemonic_eq_none_iff {b : Byte} : classifyMnemonic b = none ↔ rom b = none := Option.map_eq_none_iff

theorem classifyAddressingMode_eq_none_iff {b : Byte} : classifyAddressingMode b = none ↔ rom b = none :=
  Option.map_eq_none_iff

/-- The two tables give the 256 opcodes the same operand counts, and leave the same ones undefined. -/
theorem table_operandCounts : table.map (·.map Shape.operandCount) = Rom.table.map (·.map (·.2.count)) := by
  simp only [table, Rom.table, List.map_append]
  rfl

theorem entry_operandCount (b : Byte) : (entry b).map Shape.operandCount = (rom b).map (·.2.count) := by
  calc (entry b).map Shape.operandCount
      = (table.map (·.map Shape.operandCount)).getD b.toNat none := (List.getD_map table none (·.map _)).symm
    _ = (Rom.table.map (·.map (·.2.count))).getD b.toNat none := by rw [table_operandCounts]
    _ = (rom b).map (·.2.count) := List.getD_map Rom.table none (·.map (·.2.count))

theorem entry_eq_none_iff {b : Byte} : entry b = none ↔ rom b = none := by
  simpa using congrArg (· = none) (entry_operandCount b)

/-- The well-formedness check in terms of the decoder's table. -/
theorem wellFormedBytes_cons_iff {b : Byte} {ops : List Byte} :
    wellFormedBytes (b :: ops) = true ↔ ∃ sh, entry b = some sh ∧ ops.length = sh.operandCount.val := by
  have h := entry_operandCount b
  cases hr : rom b with
  | none => simp [wellFormedBytes, opcodeDefined, hr, entry_eq_none_iff.2 hr]
  | some c =>
    obtain ⟨sh, he, hc⟩ := Option.map_eq_some_iff.1 (h.trans (congrArg _ hr))
    simp [wellFormedBytes, opcodeDefined, operandCountFits, hr, he, hc]

theorem romTable_length : Rom.table.length = 256 := by
  simp only [Rom.table, List.length_append]
  rfl

theorem rom_mem_zipIdx (b : Byte) : (rom b, b.toNat) ∈ Rom.table.zipIdx := by
  have hb : b.toNat < Rom.table.length := romTable_length ▸ b.isLt
  simp [List.mem_zipIdx_iff_getElem?, rom, List.getD, hb]

/-- A property of a byte and its ROM cell holds of all bytes when it holds along the ROM. -/
theorem rom_of_forall_zipIdx {P : Byte → RomCell → Prop} (h : ∀ p ∈ Rom.table.zipIdx, P (BitVec.ofNat 8 p.2) p.1) (b : Byte) :
    P b (rom b) := by simpa using h _ (rom_mem_zipIdx b)

namespace Claims

/-- Exactly the cells of the 44 listed bytes are empty (R66). -/
theorem rom_eq_none_iff_mem_undefinedOpcodes : ∀ b, rom b = none ↔ b ∈ undefinedOpcodes := by
  refine rom_of_forall_zipIdx (P := fun b c => c = none ↔ b ∈ undefinedOpcodes) ?_
  simp only [Rom.table, List.zipIdx_append, List.length_append, List.forall_mem_append]
  and_intros <;> decide

/-- Every cell is listed in the table of R64, in the row at the place its mnemonic's id gives. -/
theorem rom_cell_mem_mnemonicRow :
    ∀ b, ∀ c ∈ rom b, ∃ r ∈ mnemonicRows[c.1.id.toNat]?, (b, c.2) ∈ r.2.2.2 := by
  refine rom_of_forall_zipIdx (P := fun b cell => ∀ c ∈ cell, ∃ r ∈ mnemonicRows[c.1.id.toNat]?, (b, c.2) ∈ r.2.2.2) ?_
  simp only [Rom.table, List.zipIdx_append, List.length_append, List.forall_mem_append]
  and_intros <;> decide

/-- Every row of the table of R64 agrees with the mnemonic's id and text and with the ROM cells of its opcodes. -/
theorem mnemonicRow_agrees :
    ∀ r ∈ mnemonicRows, r.1.id = r.2.1 ∧ r.1.text = r.2.2.1 ∧ ∀ f ∈ r.2.2.2, rom f.1 = some (r.1, f.2) := by
  simp only [mnemonicRows, List.forall_mem_append]
  and_intros <;> decide

theorem map_rom_allBytes : allBytes.map rom = Rom.table := by
  refine List.ext_getElem (by simp [allBytes, romTable_length]) fun n _ h => ?_
  have hn : n < 256 := romTable_length ▸ h
  simp [allBytes, rom, List.getD, Nat.mod_eq_of_lt hn, h]

/-- Counting bytes by a property of their cells is counting cells. -/
theorem length_filter_rom (p : RomCell → Bool) : (allBytes.filter fun b => p (rom b)).length = Rom.table.countP p := by
  rw [← map_rom_allBytes, List.countP_map, List.countP_eq_length_filter]
  rfl

end Claims

end Sys2Proof
end

section
/-! The statements of the family 30_encoding. -/

namespace Sys2Proof.Claims

/-- Settles O2: the encoder writes the opcode and operand bytes of a table row that makes the instruction of them, and
the decoder reads such bytes back. -/
theorem decodeOfEncodeIsTheInstruction : Obligations.DecodeOfEncodeIsTheInstruction := by
  intro i rest
  obtain ⟨o, sh, ops, henc, he, hm⟩ := exists_makes_of_encode i
  rw [henc, decode_of_makes he hm]

/-- Settles O3: the decoder answers only what a table row makes, and that is encoded as the bytes it is made of. -/
theorem decodedBytesAreTheEncoding : Obligations.DecodedBytesAreTheEncoding := by
  intro bs i rest h
  cases bs with
  | nil => cases h
  | cons o bs =>
    obtain ⟨-, hd⟩ | ⟨sh, -, -, hd⟩ | ⟨sh, ops, j, rest', he, hm, rfl, hd⟩ := decode_cases o bs
    · simp [hd] at h
    · simp [hd] at h
    · obtain ⟨rfl, rfl⟩ : j = i ∧ rest' = rest := by simpa [hd] using h
      simp [encode_of_makes he hm]

/-- Settles O4: the decoder's table and the ROM leave the same opcodes undefined and give the others the same operand
counts (`entry_operandCount`), and the decoder takes exactly so many bytes. -/
theorem decoderAcceptsWhatTheRomAccepts : Obligations.DecoderAcceptsWhatTheRomAccepts := by
  refine ⟨fun bs => ?_, fun b bs => decode_eq_undefined_iff.trans (entry_eq_none_iff.trans resolve_eq_none_iff.symm)⟩
  cases bs with
  | nil => simp [wellFormedBytes, opcodeDefined, decode]
  | cons o bs =>
    rw [wellFormedBytes_cons_iff]
    obtain ⟨he, hd⟩ | ⟨sh, he, hlt, hd⟩ | ⟨sh, ops, i, rest, he, hm, rfl, hd⟩ := decode_cases o bs
    · simp [he, hd]
    · simp [he, hd, hlt.ne]
    · simp [he, hd, hm.length_eq]

/-- Settles O1: each word is decoded by evaluation. -/
theorem writtenOutWordsDecode : Obligations.WrittenOutWordsDecode :=
  ⟨rfl, rfl, rfl, rfl, rfl, rfl, rfl, rfl, rfl, rfl, rfl, rfl, rfl, rfl, rfl, rfl, rfl⟩

/-- Settles O5: each classification function has no match exactly at an empty ROM cell. -/
theorem undefinedOpcodesAreExactlyThe44 : Obligations.UndefinedOpcodesAreExactlyThe44 :=
  ⟨rfl, by decide, fun b =>
    ⟨classifyMnemonic_eq_none_iff.trans (rom_eq_none_iff_mem_undefinedOpcodes b),
      classifyAddressingMode_eq_none_iff.trans (rom_eq_none_iff_mem_undefinedOpcodes b)⟩⟩

/-- Settles O6: the rows are checked against the ROM, and each ROM cell is found in the row of its mnemonic. -/
theorem romAgreesWithTheMnemonicTable : Obligations.RomAgreesWithTheMnemonicTable := by
  refine ⟨rfl, by decide, mnemonicRow_agrees, fun b hb => ?_⟩
  obtain ⟨c, hc⟩ := Option.isSome_iff_exists.1 hb
  obtain ⟨r, hr, hf⟩ := rom_cell_mem_mnemonicRow b c hc
  exact ⟨r, List.mem_of_getElem? hr, _, hf, rfl⟩

/-- Settles O7: the modes of each count are listed. -/
theorem operandByteCountOfEachMode : Obligations.OperandByteCountOfEachMode := by
  unfold Obligations.OperandByteCountOfEachMode
  decide

/-- Settles O8: both classification functions and the resolver answer exactly where the ROM has a cell. -/
theorem classificationFunctionsAgree : Obligations.ClassificationFunctionsAgree := fun b =>
  ⟨by simp [classifyMnemonic, classifyAddressingMode], by
    rw [resolve_eq_none_iff, classifyMnemonic_eq_none_iff, classifyAddressingMode_eq_none_iff, or_self]⟩

/-- Settles O9: the four cells are read off the ROM. -/
theorem cellsTheSourceFixes : Obligations.CellsTheSourceFixes := ⟨rfl, rfl, rfl, rfl⟩

/-- Settles O10: bytes are counted as cells of the ROM (`length_filter_rom`), row by row. -/
theorem opcodeMapCounts : Obligations.OpcodeMapCounts := by
  refine ⟨(length_filter_rom (·.isSome)).trans ?_, (length_filter_rom (!·.isSome)).trans ?_,
    (List.map_congr_left fun md _ => length_filter_rom (·.map Prod.snd == some md)).trans ?_⟩
  all_goals
    simp only [Rom.table, List.countP_append]
    decide

end Sys2Proof.Claims
end

section
/-! The status by its tests (R106), and what the outputs show of a present descriptor (R108 to R114, R130). -/

namespace Sys2Proof.Machine

section
variable {s : State}

theorem status_of_complete (hdv : s.dv = true) (hrem : s.rem = 0) : s.status = .instructionComplete := by
  simp [State.status, hdv, hrem]

theorem status_of_awaitingFirst (hdv : s.dv = true) (hrem : s.rem ≠ 0) (hc : s.rem = s.expectedCount) :
    s.status = .awaitingFirstOperandByte := by simp [State.status, hdv, hrem, ← hc]

theorem status_of_awaitingSecond (hdv : s.dv = true) (hrem : s.rem ≠ 0) (hc : s.rem ≠ s.expectedCount) :
    s.status = .awaitingSecondOperandByte := by simp [State.status, hdv, hrem, hc]

/-- The four tests of R106, each with the status it gives. -/
theorem status_cases (s : State) :
    (s.dv = false ∧ s.status = .noInstruction) ∨
    (s.dv = true ∧ s.rem = 0 ∧ s.status = .instructionComplete) ∨
    (s.dv = true ∧ s.rem ≠ 0 ∧ s.rem = s.expectedCount ∧ s.status = .awaitingFirstOperandByte) ∨
    (s.dv = true ∧ s.rem ≠ 0 ∧ s.rem ≠ s.expectedCount ∧ s.status = .awaitingSecondOperandByte) := by
  cases hdv : s.dv with
  | false => exact .inl ⟨rfl, status_of_dv_false hdv⟩
  | true =>
    by_cases hrem : s.rem = 0
    · exact .inr (.inl ⟨rfl, hrem, status_of_complete hdv hrem⟩)
    · by_cases hc : s.rem = s.expectedCount
      · exact .inr (.inr (.inl ⟨rfl, hrem, hc, status_of_awaitingFirst hdv hrem hc⟩))
      · exact .inr (.inr (.inr ⟨rfl, hrem, hc, status_of_awaitingSecond hdv hrem hc⟩))

theorem status_eq_noInstruction_iff : s.status = .noInstruction ↔ s.dv = false := by
  obtain ⟨hdv, h⟩ | ⟨hdv, -, h⟩ | ⟨hdv, -, -, h⟩ | ⟨hdv, -, -, h⟩ := status_cases s <;> simp [h, hdv]

theorem status_eq_complete_iff : s.status = .instructionComplete ↔ s.dv = true ∧ s.rem = 0 := by
  obtain ⟨hdv, h⟩ | ⟨hdv, hrem, h⟩ | ⟨-, hrem, -, h⟩ | ⟨-, hrem, -, h⟩ := status_cases s <;> simp [*]

theorem status_eq_awaitingFirst_iff :
    s.status = .awaitingFirstOperandByte ↔ s.dv = true ∧ s.rem ≠ 0 ∧ s.rem = s.expectedCount := by
  obtain ⟨hdv, h⟩ | ⟨-, hrem, h⟩ | ⟨hdv, hrem, hc, h⟩ | ⟨-, -, hc, h⟩ := status_cases s <;> simp_all

theorem status_eq_awaitingSecond_iff :
    s.status = .awaitingSecondOperandByte ↔ s.dv = true ∧ s.rem ≠ 0 ∧ s.rem ≠ s.expectedCount := by
  obtain ⟨hdv, h⟩ | ⟨-, hrem, h⟩ | ⟨-, -, hc, h⟩ | ⟨hdv, hrem, hc, h⟩ := status_cases s <;> simp_all

theorem mnemonic_of_dv_true (h : s.dv = true) : s.mnemonic = classifyMnemonic s.opc := by simp [State.mnemonic, h]

theorem addressingMode_of_dv_true (h : s.dv = true) : s.addressingMode = classifyAddressingMode s.opc := by
  simp [State.addressingMode, h]

theorem opcodeByte_of_dv_true (h : s.dv = true) : s.opcodeByte = some s.opc := by simp [State.opcodeByte, h]

theorem mnemonicText_of_dv_true (h : s.dv = true) : s.mnemonicText = (classifyMnemonic s.opc).map Mnemonic.text := by
  simp [State.mnemonicText, h]

theorem operand_of_ov_true (h : s.ov = true) : s.operand = some s.opnd := by simp [State.operand, h]

/-- No text is rendered before the first operand byte (R134). -/
theorem render_of_operandAbsent {m : Mnemonic} {md : Mode} (hr : rom s.opc = some (m, md)) (hc : md.count ≠ 0)
    (hov : s.ov = false) : s.render = none := by
  simp [State.render, classifyAddressingMode_of_rom hr, hov, hc]

end

end Sys2Proof.Machine
end

section
/-! What the register invariant (R22, R26) says of the operand in each status. -/

namespace Sys2Proof

theorem zext16_loByte_of_hiByte_eq_zero {v : Operand} (h : hiByte v = 0) : zext16 (loByte v) = v := by
  calc zext16 (loByte v) = joinBytes 0 (loByte v) := by simp [joinBytes, zext16]
    _ = joinBytes (hiByte v) (loByte v) := by rw [h]
    _ = v := joinBytes_hiByte_loByte v

namespace Machine

theorem State.Inv.descriptor_eq_none_iff {s : State} (hi : s.Inv) : s.descriptor = none ↔ s.dv = false := by
  cases hdv : s.dv with
  | false => simp [descriptor_of_dv_false hdv]
  | true =>
    obtain ⟨⟨m, md⟩, hr⟩ := Option.isSome_iff_exists.1 (hi.resolves hdv).1
    simp [descriptor_of_rom hdv hr]

theorem State.Inv.ov_of_awaitingFirst {s : State} (hi : s.Inv) (h : s.status = .awaitingFirstOperandByte) :
    s.ov = false := by
  obtain ⟨-, -, hc⟩ := status_eq_awaitingFirst_iff.1 h
  simpa [hc] using hi.present

/-- The only state of the invariant in AwaitingSecondOperandByte: one of two operand bytes is folded in. -/
theorem State.Inv.of_awaitingSecond {s : State} (hi : s.Inv) (h : s.status = .awaitingSecondOperandByte) :
    s.expectedCount = 2 ∧ s.rem = 1 ∧ s.ov = true ∧ hiByte s.opnd = 0 := by
  obtain ⟨hdv, hrem, hc⟩ := status_eq_awaitingSecond_iff.1 h
  obtain ⟨m, md, hr, -, ⟨hc1, hrem1, -⟩ | ⟨hc2, hrem2, -⟩ | hsecond⟩ := hi.inside (by simp [State.AtBoundary, hdv, hrem])
  all_goals have he := expectedCount_of_rom hr
  · exact absurd (by rw [he, hc1, hrem1]) hc
  · exact absurd (by rw [he, hc2, hrem2]) hc
  · exact he ▸ hsecond

end Machine

end Sys2Proof
end

section
/-! The outputs after a byte at a boundary (R103, R104), and a byte inside an instruction (R105). -/

namespace Sys2Proof.Machine

/-- What a byte at a boundary leads to depends on the byte count alone, and no output shows the pending feeds. -/
theorem ports_decodeByte_of_boundary {s t : State} (hs : s.AtBoundary) (ht : t.AtBoundary) (hcnt : s.cnt = t.cnt)
    (b : Byte) : (decodeByte b s).ports = (decodeByte b t).ports := by
  rw [decodeByte_of_boundary hs, decodeByte_of_boundary ht]
  cases hr : resolve b with
  | none =>
    simp [startInstruction, hr, ports_of_dv_false (State.discard_dv _), operand_of_ov_false (State.discard_ov _), hcnt]
  | some d =>
    have h : s.countByte.install d = { t.countByte.install d with input := s.input } := by
      simp [State.install, State.countByte, hcnt]
    simp only [startInstruction, hr, h]
    rfl

section
variable {s : State} {o : Byte} {m : Mnemonic} {md : Mode} (hb : s.AtBoundary) (hr : rom o = some (m, md))
include hb hr

theorem descriptor_after_opcode : (decodeByte o s).descriptor = some ⟨o, m, md, m.text, md.count⟩ := by
  rw [decodeByte_opcode hb hr, descriptor_of_rom rfl hr]

theorem status_after_opcode_complete (hc : md.count = 0) : (decodeByte o s).status = .instructionComplete := by
  rw [decodeByte_opcode hb hr, status_of_complete rfl hc]

theorem status_after_opcode_awaiting (hc : md.count ≠ 0) : (decodeByte o s).status = .awaitingFirstOperandByte := by
  rw [decodeByte_opcode hb hr, status_of_awaitingFirst rfl hc (expectedCount_of_rom hr).symm]

theorem status_after_firstOperand_complete (hc : md.count = 1) (b1 : Byte) :
    (decodeByte b1 (decodeByte o s)).status = .instructionComplete := by
  rw [decodeByte_firstOperand hb hr (by simp [hc]), status_of_complete rfl (by simp [hc, decRem])]

theorem status_after_firstOperand_awaiting (hc : md.count = 2) (b1 : Byte) :
    (decodeByte b1 (decodeByte o s)).status = .awaitingSecondOperandByte := by
  rw [decodeByte_firstOperand hb hr (by simp [hc]), status_of_awaitingSecond rfl (by simp [hc, decRem])]
  rw [expectedCount_of_rom hr]
  simp [hc, decRem]

theorem status_after_secondOperand (hc : md.count = 2) (b1 b2 : Byte) :
    (decodeByte b2 (decodeByte b1 (decodeByte o s))).status = .instructionComplete := by
  rw [decodeByte_secondOperand hb hr hc, status_of_complete rfl rfl]

end

section
variable {s : State} (hi : s.Inv)
include hi

theorem fold_opnd_of_awaitingFirst (h : s.status = .awaitingFirstOperandByte) (b : Byte) :
    (s.fold b).opnd = zext16 b := by
  obtain ⟨-, -, hc⟩ := status_eq_awaitingFirst_iff.1 h
  exact fold_opnd_of_firstByte (hi.cleared (hi.ov_of_awaitingFirst h)) hc b

theorem fold_opnd_of_awaitingSecond (h : s.status = .awaitingSecondOperandByte) (b : Byte) :
    (s.fold b).opnd = joinBytes b (loByte s.opnd) := by
  obtain ⟨hc, hrem, -, hhi⟩ := hi.of_awaitingSecond h
  have hp : s.foldPosition = 1 := by rw [foldPosition_of_le] <;> simp [hc, hrem]
  rw [State.fold_opnd, hp, ← fold_second, zext16_loByte_of_hiByte_eq_zero hhi]

/-- Fewer operand bytes than the mode's count are awaited after a fold, so that the first is never awaited. -/
theorem status_fold (hn : ¬ s.AtBoundary) (b : Byte) :
    (s.fold b).status = if (s.fold b).rem = 0 then .instructionComplete else .awaitingSecondOperandByte := by
  obtain ⟨-, -, -, hdv, -⟩ := hi.inside hn
  split
  case isTrue h0 => exact status_of_complete hdv h0
  case isFalse h0 =>
    have hlt := ((hi.fold hn b).present.1 rfl).2.2
    exact status_of_awaitingSecond hdv h0 hlt.ne

end

end Sys2Proof.Machine
end

section
/-! A feed is the transactions of its bytes, and no transaction reads the pending feeds (R116, R117). -/

namespace Sys2Proof.Machine

theorem step_of_noFeed {s : State} (h : s.input = []) : step s = .next s := by simp [step, takeFeed_nil h]

theorem decodeByte_withInput (b : Byte) (s : State) (feeds : List (List Byte)) :
    decodeByte b { s with input := feeds } = { decodeByte b s with input := feeds } := by
  by_cases hb : s.AtBoundary
  · rw [decodeByte_of_boundary hb, decodeByte_of_boundary (s := { s with input := feeds }) hb]
    unfold startInstruction
    cases resolve b <;> rfl
  · rw [decodeByte_of_inside hb, decodeByte_of_inside (s := { s with input := feeds }) hb]
    rfl

theorem present_withInput (bs : List Byte) (s : State) (feeds : List (List Byte)) :
    present bs { s with input := feeds } = { present bs s with input := feeds } := by
  induction bs generalizing s with
  | nil => rfl
  | cons b bs ih => rw [present_cons, decodeByte_withInput, ih, present_cons]

theorem runFeed_of_decode {s t : State} {feed more : List Byte} {i : Instr} (hb : s.AtBoundary)
    (hd : decode feed = .ok (i, more)) (ht : exec i s = .next t) : runFeed feed s = .next (present more t) := by
  simp [runFeed, hb, hd, ht]

/-- An instruction decoded from a feed is run as its encoding, which is what the decoder took from the feed. -/
theorem runFeed_eq_present_feed (feed : List Byte) (s : State) : runFeed feed s = .next (present feed s) := by
  obtain ⟨-, h⟩ | ⟨-, -, -, h⟩ | ⟨i, more, -, hd, h⟩ := runFeed_cases feed s
  · exact h
  · exact h
  · rw [h _ (exec_eq_present_encode i s), Claims.decodedBytesAreTheEncoding feed i more hd, present_append]

theorem step_eq_present_feed {s : State} {feed : List Byte} {rest : List (List Byte)} (h : s.input = feed :: rest) :
    step s = .next (present feed { s with input := rest }) := by rw [step_of_feed h, runFeed_eq_present_feed]

end Sys2Proof.Machine
end

section
/-! The opcode byte an instruction is encoded with, and the operand bytes after it (R60). -/

namespace Sys2Proof

theorem exists_rom_of_encode (i : Instr) :
    ∃ o m md ops, encode i = o :: ops ∧ rom o = some (m, md) ∧ ops.length = md.count.val := by
  obtain ⟨o, sh, ops, henc, he, hm⟩ := exists_makes_of_encode i
  obtain ⟨⟨m, md⟩, hr, hc⟩ := Option.map_eq_some_iff.1 ((entry_operandCount o).symm.trans (congrArg _ he))
  exact ⟨o, m, md, ops, henc, hr, by rw [hm.length_eq, ← hc]⟩

end Sys2Proof
end

section
/-! The statements of the family 40_decoder_operations. -/

namespace Sys2Proof.Claims

open Sys2Proof.Machine

/-- Settles O14: the ROM cell of the byte is empty, so it is discarded; what the next byte leads to depends on the byte
count alone (`ports_decodeByte_of_boundary`). -/
theorem undefinedByteIsDiscarded : Obligations.UndefinedByteIsDiscarded := by
  intro b s hmem hb
  have h : decodeByte b s = s.countByte.discard :=
    decodeByte_of_noMatch hb ((rom_eq_none_iff_mem_undefinedOpcodes b).2 hmem)
  have hdv : (decodeByte b s).dv = false := by rw [h, State.discard_dv]
  have hov : (decodeByte b s).ov = false := by rw [h, State.discard_ov]
  exact ⟨hdv, hov, by rw [h, State.discard_rem], decodeByte_cnt b s, status_of_dv_false hdv,
    descriptor_of_dv_false hdv, mnemonic_of_dv_false hdv, addressingMode_of_dv_false hdv, opcodeByte_of_dv_false hdv,
    operand_of_ov_false hov, mnemonicText_of_dv_false hdv, render_of_dv_false hdv,
    ports_decodeByte_of_boundary (.inl hdv) (.inl rfl) (decodeByte_cnt b s)⟩

/-- Settles O15: the state after an opcode byte holds the descriptor, and with count 0 it is a boundary. -/
theorem opcodeInstallsItsDescriptor : Obligations.OpcodeInstallsItsDescriptor := by
  intro b d s hb hd
  obtain ⟨m, md, hr, rfl⟩ := resolve_eq_some.1 hd
  have h := decodeByte_opcode hb hr
  have hrem : (decodeByte b s).rem = md.count := by rw [h]
  have hov : (decodeByte b s).ov = false := by rw [h]
  exact ⟨descriptor_after_opcode hb hr, hrem, fun (hc : md.count = 0) =>
    ⟨status_after_opcode_complete hb hr hc, hov, operand_of_ov_false hov,
      decodeByte_of_boundary (.inr (hrem.trans hc))⟩⟩

/-- Settles O17: the byte is folded, into a cleared operand or above its low byte. -/
theorem operandByteIsFoldedNotDecoded : Obligations.OperandByteIsFoldedNotDecoded := by
  intro b s hi hn
  obtain ⟨-, -, -, hdv, -⟩ := hi.inside hn
  have hrem : s.rem.val ≠ 0 := fun h => hn (.inr (Fin.ext h))
  rw [decodeByte_of_inside hn]
  refine ⟨hdv, rfl, rfl, rfl, ?_, fun h => ?_, fun h => ?_, status_fold hi.countByte hn b⟩
  · simp only [State.fold_rem, State.countByte_rem, decRem_val]
    omega
  · rw [fold_opnd_of_awaitingFirst hi.countByte h]
    exact ⟨loByte_zext16 b, hiByte_zext16 b⟩
  · rw [fold_opnd_of_awaitingSecond hi.countByte h]
    exact ⟨loByte_joinBytes b _, hiByte_joinBytes b _⟩

/-- Settles O19, by the number of operand bytes that the opcode's mode takes. -/
theorem statusSequenceOfEveryInstruction : Obligations.StatusSequenceOfEveryInstruction := by
  intro i s hb
  obtain ⟨o, m, md, ops, henc, hr, hlen⟩ := exists_rom_of_encode i
  have hcount : ∀ c : Fin 3, c = 0 ∨ c = 1 ∨ c = 2 := by decide
  rw [henc]
  obtain hc | hc | hc := hcount md.count <;> rw [hc] at hlen
  · obtain rfl := List.length_eq_zero_iff.1 hlen
    simp [statusTrace, expectedTrace, status_after_opcode_complete hb hr hc]
  · obtain ⟨b1, rfl⟩ := List.length_eq_one_iff.1 hlen
    simp [statusTrace, expectedTrace, status_after_opcode_awaiting hb hr (by simp [hc]),
      status_after_firstOperand_complete hb hr hc]
  · obtain ⟨b1, b2, rfl⟩ := List.length_eq_two.1 hlen
    simp [statusTrace, expectedTrace, status_after_opcode_awaiting hb hr (by simp [hc]),
      status_after_firstOperand_awaiting hb hr hc, status_after_secondOperand hb hr hc]

/-- Settles O25: each accessor by `DV` and the ROM cell; under the invariant `DV` alone says whether there is a
descriptor, and it is what NoInstruction tests. -/
theorem accessorsReadTheDescriptor : Obligations.AccessorsReadTheDescriptor := fun s =>
  ⟨rfl,
    fun hdv => ⟨descriptor_of_dv_false hdv, mnemonic_of_dv_false hdv, addressingMode_of_dv_false hdv,
      opcodeByte_of_dv_false hdv, mnemonicText_of_dv_false hdv⟩,
    fun m md hdv hr => ⟨descriptor_of_rom hdv hr, (mnemonic_of_dv_true hdv).trans (classifyMnemonic_of_rom hr),
      (addressingMode_of_dv_true hdv).trans (classifyAddressingMode_of_rom hr), opcodeByte_of_dv_true hdv, by
        rw [mnemonicText_of_dv_true hdv, classifyMnemonic_of_rom hr, Option.map_some]⟩,
    fun hi => hi.descriptor_eq_none_iff.trans status_eq_noInstruction_iff.symm⟩

/-- Settles O26: the invariant's rule for `OV`, read in each status. -/
theorem operandIsPresentByStatus : Obligations.OperandIsPresentByStatus := by
  intro s hi
  refine ⟨fun h => ?_, fun h => ?_, fun h hc => ?_, fun h hc => ?_, fun h => ?_⟩
  · exact operand_of_ov_false (hi.empty (status_eq_noInstruction_iff.1 h)).2
  · exact operand_of_ov_false (hi.ov_of_awaitingFirst h)
  · have hov : s.ov = false := by simpa [hc] using hi.present
    exact operand_of_ov_false hov
  · obtain ⟨hdv, hrem⟩ := status_eq_complete_iff.1 h
    exact operand_of_ov_true (hi.present.2 ⟨hdv, hc, hrem ▸ Fin.pos_of_ne_zero hc⟩)
  · obtain ⟨-, -, hov, hhi⟩ := hi.of_awaitingSecond h
    exact ⟨operand_of_ov_true hov, (zext16_loByte_of_hiByte_eq_zero hhi).symm⟩

/-- Settles O36: an instruction run from a feed is the transactions of the bytes the decoder took for it. -/
theorem stepIsTheTransactionsOfItsFeed : Obligations.StepIsTheTransactionsOfItsFeed := fun _ _ _ =>
  step_eq_present_feed

/-- Settles O37, by induction on the number of steps. -/
theorem parkedWithoutInput : Obligations.ParkedWithoutInput := by
  refine ⟨fun k s h => ?_, fun _ _ => rfl⟩
  induction k with
  | zero => rfl
  | succ k ih => exact (run_of_step core (step_of_noFeed h)).trans ih

/-- Settles O39: the transactions of `b` after those of `a` are those of `a ++ b`, whatever feeds are pending. -/
theorem splittingAFeedChangesNothing : Obligations.SplittingAFeedChangesNothing := by
  intro s a b rest
  have ha : step { s with input := a :: b :: rest } = .next (present a { s with input := b :: rest }) :=
    step_eq_present_feed rfl
  have hb : step (present a { s with input := b :: rest }) = .next (present (a ++ b) { s with input := rest }) := by
    rw [step_eq_present_feed (present_input a _), present_append, ← present_withInput]
  have hab : step { s with input := (a ++ b) :: rest } = .next (present (a ++ b) { s with input := rest }) :=
    step_eq_present_feed rfl
  calc Host.Core.run core 2 { s with input := a :: b :: rest }
      = Host.Core.run core 1 (present a { s with input := b :: rest }) := run_of_step core ha
    _ = Host.Core.run core 0 (present (a ++ b) { s with input := rest }) := run_of_step core hb
    _ = Host.Core.run core 1 { s with input := (a ++ b) :: rest } := Eq.symm (run_of_step core hab)

/-- Settles O40: each of the 212 meanings is the transactions of the instruction's bytes. -/
theorem meaningIsTheTransactionsOfTheEncoding : Obligations.MeaningIsTheTransactionsOfTheEncoding :=
  exec_eq_present_encode

/-- Settles O44: the ports are the accessors, which read the descriptor (`accessorsReadTheDescriptor`), with ids. -/
theorem portsCarryTheOutputs : Obligations.PortsCarryTheOutputs := by
  refine ⟨rfl, fun s => ⟨rfl, rfl, rfl, rfl, rfl, ?_, fun hdv => ?_, fun m md hdv hr => ?_⟩⟩
  · cases hov : s.ov with
    | false => exact operand_of_ov_false hov
    | true => exact operand_of_ov_true hov
  · simp [ports_of_dv_false hdv]
  · obtain ⟨-, -, hpresent, -⟩ := accessorsReadTheDescriptor s
    obtain ⟨hd, hm, hmd, ho, ht⟩ := hpresent m md hdv hr
    simp [State.ports, ho, hm, hmd, hd, ht]

/-- Settles O59: an opcode byte clears the operand, and then the first operand byte, if there is one, is awaited. -/
theorem opcodeByteLeavesTheOperandAbsent : Obligations.OpcodeByteLeavesTheOperandAbsent := by
  intro b d s hb hd
  obtain ⟨m, md, hr, rfl⟩ := resolve_eq_some.1 hd
  have h := decodeByte_opcode hb hr
  have hov : (decodeByte b s).ov = false := by rw [h]
  have hopc : rom (decodeByte b s).opc = some (m, md) := by rw [h]; exact hr
  exact ⟨hov, by rw [h], operand_of_ov_false hov, fun (hc : md.count ≠ 0) =>
    ⟨status_after_opcode_awaiting hb hr hc, render_of_operandAbsent hopc hc hov⟩⟩

/-- Settles O12: the resolver by the answers of the two classification functions. -/
theorem resolverBuildsTheDescriptor : Obligations.ResolverBuildsTheDescriptor := by
  refine fun b => ⟨fun h => ?_, fun m md hm hmd => by simp [resolve, hm, hmd]⟩
  rw [resolve_eq_none_iff]
  exact h.elim classifyMnemonic_eq_none_iff.1 classifyAddressingMode_eq_none_iff.1

/-- Settles O13: the three things a transaction can do, with the fold at the position the awaited count gives. -/
theorem decodeTransactionFollowsItsSteps : Obligations.DecodeTransactionFollowsItsSteps := by
  refine fun b s => ⟨fun hb => ⟨fun hn => ?_, fun d hd => ?_⟩, fun hdv r m md hrem hr hle => ?_⟩
  · exact decodeByte_of_noMatch hb (resolve_eq_none_iff.1 hn)
  · obtain ⟨m, md, hr, rfl⟩ := resolve_eq_some.1 hd
    exact decodeByte_opcode hb hr
  · have hn : ¬ s.AtBoundary := by
      rintro (h | h)
      · simp [hdv] at h
      · simp [h] at hrem
    have he := expectedCount_of_rom hr
    have hp : s.countByte.foldPosition = md.count.val - s.rem.val :=
      he ▸ foldPosition_of_le (s := s.countByte) (he ▸ hle)
    have hdec : decRem s.rem = r := Fin.ext (by simp [hrem])
    rw [decodeByte_of_inside hn, State.fold, hp, State.countByte_rem, hdec]
    rfl

/-- Settles O18: the tests in the spec's order, the third and fourth with the count of the ROM cell. -/
theorem statusIsAFunctionOfTheRegisters : Obligations.StatusIsAFunctionOfTheRegisters := by
  refine ⟨status_of_dv_false rfl, fun s => ⟨status_of_dv_false, status_of_complete, fun m md hr hdv hrem => ?_⟩⟩
  rw [← expectedCount_of_rom hr]
  exact ⟨status_of_awaitingFirst hdv hrem, status_of_awaitingSecond hdv hrem⟩

/-- Settles O38: at a boundary a feed that decodes runs the instruction, which always answers a next state. -/
theorem stepRunsTheDecodedInstruction : Obligations.StepRunsTheDecodedInstruction := by
  intro s t feed more rest i hb hin hd
  have hrun (u : State) (hu : exec i { s with input := rest } = .next u) : step s = .next (present more u) := by
    rw [step_of_feed hin, runFeed_of_decode (s := { s with input := rest }) hb hd hu]
  refine ⟨hrun t, ?_⟩
  rintro rfl
  have hex := exec_eq_present_encode i { s with input := rest }
  rw [hrun _ hex, hex, present_nil]

end Sys2Proof.Claims
end

section
/-! The renderer (R130) by the operand syntax of the current mode, and the state it reads after each operand byte. -/

namespace Sys2Proof

theorem toNat_zext32 (v : Operand) : (zext32 v).toNat = v.toNat := BitVec.toNat_setWidth_of_le (by decide)

theorem zext32_zext16 (b : Byte) : zext32 (zext16 b) = b.setWidth 32 := by simp [zext32, zext16]

theorem joinBytes_zero (b : Byte) : joinBytes 0 b = zext16 b := by simp [joinBytes, zext16]

theorem classifyAddressingMode_eq_some_iff {b : Byte} {md : Mode} :
    classifyAddressingMode b = some md ↔ ∃ m, rom b = some (m, md) := by simp [classifyAddressingMode]

theorem Mode.ne_rel_of_count_two {md : Mode} (hc : md.count = 2) : md ≠ .rel := by
  rintro rfl
  cases hc

namespace Machine

section
variable {s : State} {md : Mode}

theorem addressingMode_of_rom {m : Mnemonic} (hdv : s.dv = true) (hr : rom s.opc = some (m, md)) :
    s.addressingMode = some md := (addressingMode_of_dv_true hdv).trans (classifyAddressingMode_of_rom hr)

theorem dv_of_addressingMode (h : s.addressingMode = some md) : s.dv = true := by
  cases hdv : s.dv with
  | false => simp [addressingMode_of_dv_false hdv] at h
  | true => rfl

theorem exists_rom_of_addressingMode (h : s.addressingMode = some md) : ∃ m, rom s.opc = some (m, md) :=
  classifyAddressingMode_eq_some_iff.1 (addressingMode_of_dv_true (dv_of_addressingMode h) ▸ h)

theorem expectedCount_of_addressingMode (h : s.addressingMode = some md) : s.expectedCount = md.count := by
  obtain ⟨m, hr⟩ := exists_rom_of_addressingMode h
  exact expectedCount_of_rom hr

theorem render_of_mode (h : s.addressingMode = some md) :
    s.render =
      if s.ov = true then (if md.count = 0 then none else some (wrap md (hex (s.display md))))
      else if md.count = 0 then some (wrap md []) else none := by
  obtain ⟨m, hr⟩ := exists_rom_of_addressingMode h
  cases hov : s.ov <;> simp [State.render, dv_of_addressingMode h, classifyAddressingMode_of_rom hr, hov]

theorem render_of_unexpectedOperand (h : s.addressingMode = some md) (hov : s.ov = true) (hc : md.count = 0) :
    s.render = none := by simp [render_of_mode h, hov, hc]

theorem render_of_operand (h : s.addressingMode = some md) (hov : s.ov = true) (hc : md.count ≠ 0) :
    s.render = some (wrap md (hex (s.display md))) := by simp [render_of_mode h, hov, hc]

theorem render_of_noOperand (h : s.addressingMode = some md) (hov : s.ov = false) (hc : md.count = 0) :
    s.render = some (wrap md []) := by simp [render_of_mode h, hov, hc]

/-- A text is rendered of a mode: with its operand, or with none where none is expected. -/
theorem render_eq_some_cases {t : Text} (ht : s.render = some t) :
    ∃ md, s.addressingMode = some md ∧
      ((s.ov = true ∧ t = wrap md (hex (s.display md))) ∨ (s.ov = false ∧ t = wrap md [])) := by
  cases h : s.addressingMode with
  | none =>
    have hnone : s.render = none := by
      cases hdv : s.dv with
      | false => exact render_of_dv_false hdv
      | true => simp [State.render, hdv, (addressingMode_of_dv_true hdv).symm.trans h]
    simp [hnone] at ht
  | some md =>
    refine ⟨md, rfl, ?_⟩
    cases hov : s.ov with
    | true =>
      have hw : md.count ≠ 0 ∧ wrap md (hex (s.display md)) = t := by simpa [render_of_mode h, hov] using ht
      exact .inl ⟨rfl, hw.2.symm⟩
    | false =>
      have hw : md.count = 0 ∧ wrap md [] = t := by simpa [render_of_mode h, hov] using ht
      exact .inr ⟨rfl, hw.2.symm⟩

end

section
variable {s : State} {o : Byte} {m : Mnemonic} {md : Mode} (hb : s.AtBoundary) (hr : rom o = some (m, md))
include hb hr

theorem addressingMode_after_firstOperand (hc : md.count ≠ 0) (b1 : Byte) :
    (decodeByte b1 (decodeByte o s)).addressingMode = some md := by
  rw [decodeByte_firstOperand hb hr hc, addressingMode_of_rom rfl hr]

theorem addressingMode_after_secondOperand (hc : md.count = 2) (b1 b2 : Byte) :
    (decodeByte b2 (decodeByte b1 (decodeByte o s))).addressingMode = some md := by
  rw [decodeByte_secondOperand hb hr hc, addressingMode_of_rom rfl hr]

theorem render_after_firstOperand (hc : md.count ≠ 0) (b1 : Byte) :
    (decodeByte b1 (decodeByte o s)).render = some (wrap md (hex ((decodeByte b1 (decodeByte o s)).display md))) :=
  render_of_operand (addressingMode_after_firstOperand hb hr hc b1) (by rw [decodeByte_firstOperand hb hr hc]) hc

theorem render_after_secondOperand (hc : md.count = 2) (b1 b2 : Byte) :
    (decodeByte b2 (decodeByte b1 (decodeByte o s))).render =
      some (wrap md (hex ((decodeByte b2 (decodeByte b1 (decodeByte o s))).display md))) :=
  render_of_operand (addressingMode_after_secondOperand hb hr hc b1 b2) (by rw [decodeByte_secondOperand hb hr hc])
    (by simp [hc])

theorem display_after_firstOperand (hc : md.count ≠ 0) (hmd : md ≠ .rel) (b1 : Byte) :
    (decodeByte b1 (decodeByte o s)).display md = b1.setWidth 32 := by
  rw [display_of_ne_rel _ hmd, decodeByte_firstOperand hb hr hc, zext32_zext16]

theorem display_after_secondOperand (hc : md.count = 2) (b1 b2 : Byte) :
    (decodeByte b2 (decodeByte b1 (decodeByte o s))).display md = zext32 (joinBytes b2 b1) := by
  rw [display_of_ne_rel _ (Mode.ne_rel_of_count_two hc), decodeByte_secondOperand hb hr hc]

end

theorem State.Inv.ov_iff_of_complete {s : State} {md : Mode} (hi : s.Inv) (hmd : s.addressingMode = some md)
    (h : s.status = .instructionComplete) : s.ov = true ↔ md.count ≠ 0 := by
  obtain ⟨hdv, hrem⟩ := status_eq_complete_iff.1 h
  simp [hi.present, hdv, hrem, Fin.pos_iff_ne_zero, expectedCount_of_addressingMode hmd]

end Machine

end Sys2Proof
end

section
/-! The hexadecimal text (R132): its value digit by digit, and its length; the lengths of the other texts (R133, R64). -/

namespace Sys2Proof

namespace Claims

theorem digitValue_hexDigit : ∀ d : BitVec 4, digitValue (hexDigit d) = some d.toNat := by decide

theorem digitsValue_append_hexDigit {t : Text} {n : Nat} (h : digitsValue t = some n) (d : BitVec 4) :
    digitsValue (t ++ [hexDigit d]) = some (16 * n + d.toNat) := by
  rw [digitsValue, List.foldl_append]
  change Option.bind (digitsValue t) _ = _
  simp [h, digitValue_hexDigit]

theorem digitsValue_append_hex2 {t : Text} {n : Nat} (h : digitsValue t = some n) (x : Byte) :
    digitsValue (t ++ hex2 x) = some (n * 2 ^ 8 + x.toNat) := by
  have h2 := digitsValue_append_hexDigit (digitsValue_append_hexDigit h (x.extractLsb' 4 4)) (x.extractLsb' 0 4)
  rw [List.append_assoc] at h2
  refine h2.trans (congrArg some ?_)
  have hx := x.isLt
  simp only [BitVec.extractLsb'_toNat, Nat.shiftRight_eq_div_pow]
  omega

/-- Each byte group appends eight bits of the value to the digits before it. -/
theorem digitsValue_append_hexGroups {t : Text} {n : Nat} (h : digitsValue t = some n) (k : Nat) (v : Count) :
    digitsValue (t ++ hexGroups k v) = some (n * 2 ^ (8 * k) + v.toNat % 2 ^ (8 * k)) := by
  induction k generalizing t n with
  | zero => simp [hexGroups, h, Nat.mod_one]
  | succ k ih =>
    rw [hexGroups, ← List.append_assoc, ih (digitsValue_append_hex2 h _)]
    have hsplit : 2 ^ (8 * (k + 1)) = 2 ^ (8 * k) * 2 ^ 8 := by rw [← pow_add, Nat.mul_succ]
    rw [hsplit, Nat.mod_mul, BitVec.extractLsb'_toNat, Nat.shiftRight_eq_div_pow]
    congr 1
    ring

theorem digitsValue_hexGroups {k : Nat} {v : Count} (h : v.toNat < 2 ^ (8 * k)) :
    digitsValue (hexGroups k v) = some v.toNat := by
  simpa [Nat.mod_eq_of_lt h] using digitsValue_append_hexGroups (t := []) rfl k v

end Claims

theorem hexGroupCount_pos (v : Count) : 1 ≤ hexGroupCount v := by
  obtain ⟨h, -⟩ | ⟨h, -⟩ | ⟨h, -⟩ | ⟨h, -⟩ := hexGroupCount_cases v <;> simp [h]

theorem toNat_lt_of_hexGroupCount (v : Count) : v.toNat < 2 ^ (8 * hexGroupCount v) := by
  have hv := v.isLt
  obtain ⟨h, hlt⟩ | ⟨h, -, hlt⟩ | ⟨h, -, hlt⟩ | ⟨h, -⟩ := hexGroupCount_cases v <;> rw [h] <;> omega

/-- Fewer byte groups than the group count, but at least one, do not hold the value. -/
theorem hexGroupCount_le {v : Count} {k : Nat} (hk : 1 ≤ k) (hlt : v.toNat < 2 ^ (8 * k)) : hexGroupCount v ≤ k := by
  by_contra! hfewer
  have hpow : 2 ^ (8 * k) ≤ 2 ^ (8 * (hexGroupCount v - 1)) := Nat.pow_le_pow_right (by decide) (by omega)
  obtain ⟨h, -⟩ | ⟨h, hle, -⟩ | ⟨h, hle, -⟩ | ⟨h, hle⟩ := hexGroupCount_cases v <;> rw [h] at hfewer hpow <;> omega

theorem hexGroupCount_le_four (v : Count) : hexGroupCount v ≤ 4 :=
  hexGroupCount_le (by decide) v.isLt

theorem length_hex_le (v : Count) : (hex v).length ≤ 9 := by
  have hn := hexGroupCount_le_four v
  rw [hex_length]
  omega

theorem length_hex_zext32_le (v : Operand) : (hex (zext32 v)).length ≤ 5 := by
  have hv : hexGroupCount (zext32 v) ≤ 2 := hexGroupCount_le (by decide) (toNat_zext32 v ▸ v.isLt)
  rw [hex_length]
  omega

theorem length_wrap_le (md : Mode) (h : Text) : (wrap md h).length ≤ h.length + 5 := by
  cases md <;> simp [wrap]

theorem Mnemonic.length_text (m : Mnemonic) : m.text.length = 3 ∨ m.text.length = 4 := by
  cases m <;> decide

/-- REL has the longest hex text and no other characters; every other mode has at most 5 of each. -/
theorem length_wrap_display_le (s : Machine.State) (md : Mode) : (wrap md (hex (s.display md))).length ≤ 10 := by
  by_cases h : md = .rel
  · subst h
    exact (length_hex_le _).trans (by decide)
  · have hw := length_wrap_le md (hex (s.display md))
    have hh := length_hex_zext32_le s.opnd
    rw [display_of_ne_rel s h] at *
    omega

end Sys2Proof
end

section
/-! The display value of a relative operand (R131, R137, R138). -/

namespace Sys2Proof

theorem toNat_sext32 (b : Byte) : ((sext32 b).toNat : Int) = b.toInt % 2 ^ 32 := by
  rw [sext32, BitVec.signExtend, BitVec.toNat_ofInt]
  exact Int.toNat_of_nonneg (Int.emod_nonneg _ (by decide))

theorem setWidth_sext32 (b : Byte) : (sext32 b).setWidth 16 = b.signExtend 16 := by
  ext i hi
  have h32 : i < 32 := by omega
  by_cases h8 : i < 8 <;>
    simp [sext32, BitVec.getElem_signExtend, h32, h8, BitVec.getLsbD_eq_getElem]

namespace Machine

theorem toNat_display_rel (s : State) :
    ((s.display .rel).toNat : Int) = ((s.cnt.toNat : Int) + (loByte s.opnd).toInt) % 2 ^ 32 := by
  rw [display_rel, BitVec.toNat_add, Int.natCast_emod, Int.natCast_add, toNat_sext32]
  exact Int.add_emod_emod ..

theorem base_add_display_rel (base : Count) (s : State) :
    (base + s.display .rel).setWidth 16 = (base + s.cnt).setWidth 16 + (loByte s.opnd).signExtend 16 := by
  rw [display_rel, ← BitVec.add_assoc, BitVec.setWidth_add _ _ (by decide), setWidth_sext32]

end Machine

namespace Claims

theorem branchForms_mode : ∀ f ∈ branchForms, classifyAddressingMode f.1 = some .rel := by decide

theorem branchForms_encode : ∀ f ∈ branchForms, ∀ b1, encode (f.2 b1) = [f.1, b1] := by
  intro f hf b1
  fin_cases hf <;> rfl

end Claims

end Sys2Proof
end

section
/-! The statements of the family 41_renderer. -/

namespace Sys2Proof.Claims

open Sys2Proof.Machine

/-- Settles O28: the invariant's rule for `OV` in each status, and the high byte it keeps clear before the second
operand byte. -/
theorem renderByStatus : Obligations.RenderByStatus := by
  refine fun s hi => ⟨fun h => ?_, fun h => ?_, fun md hmd => ⟨fun h => ?_, fun h hc => ?_, fun h hc => ?_⟩⟩
  · exact render_of_dv_false (status_eq_noInstruction_iff.1 h)
  · obtain ⟨hdv, hrem, hawaited⟩ := status_eq_awaitingFirst_iff.1 h
    obtain ⟨⟨m, md⟩, hr⟩ := Option.isSome_iff_exists.1 (hi.resolves hdv).1
    have hc : md.count ≠ 0 := by rwa [← expectedCount_of_rom hr, ← hawaited]
    exact render_of_operandAbsent hr hc (hi.ov_of_awaitingFirst h)
  · obtain ⟨hcount, -, hov, hhi⟩ := hi.of_awaitingSecond h
    rw [expectedCount_of_addressingMode hmd] at hcount
    have hdisplay : s.display md = (loByte s.opnd).setWidth 32 := by
      rw [display_of_ne_rel s (Mode.ne_rel_of_count_two hcount), ← zext32_zext16, zext16_loByte_of_hiByte_eq_zero hhi]
    rw [render_of_operand hmd hov (by simp [hcount]), hdisplay]
  · have hov : s.ov = false := by simpa [hc] using hi.ov_iff_of_complete hmd h
    exact render_of_noOperand hmd hov hc
  · exact render_of_operand hmd ((hi.ov_iff_of_complete hmd h).2 hc) hc

/-- Settles O29: the digits hold the value group by group (`digitsValue_hexGroups`), and the group count is the least
that holds it (`hexGroupCount_le`). -/
theorem hexTextIsTheValueInByteGroups : Obligations.HexTextIsTheValueInByteGroups := by
  refine ⟨fun v => ?_, fun s md t hov hmd ht => ?_⟩
  · have hpos := hexGroupCount_pos v
    have hlt := toNat_lt_of_hexGroupCount v
    exact ⟨hexGroups (hexGroupCount v) v, hexGroupCount v, rfl, digitsValue_hexGroups hlt, hexGroups_length _ v, hpos,
      hexGroupCount_le_four v, hlt, fun k => hexGroupCount_le⟩
  · obtain ⟨md', hmd', ⟨hov', -⟩ | ⟨-, rfl⟩⟩ := render_eq_some_cases ht
    · simp [hov] at hov'
    · rw [Option.some.inj (hmd.symm.trans hmd')]

/-- Settles O31: an operand's text is bounded by `length_wrap_display_le`, and an empty one is at most the syntax. -/
theorem textsFitTheirPorts : Obligations.TextsFitTheirPorts := by
  refine fun s t => ⟨fun ht => ?_, fun ht => ?_⟩
  · obtain ⟨md, -, ⟨-, rfl⟩ | ⟨-, rfl⟩⟩ := render_eq_some_cases ht
    · exact length_wrap_display_le s md
    · exact (length_wrap_le md []).trans (by decide)
  · cases hdv : s.dv with
    | false => simp [mnemonicText_of_dv_false hdv] at ht
    | true =>
      rw [mnemonicText_of_dv_true hdv] at ht
      obtain ⟨m, -, rfl⟩ := Option.map_eq_some_iff.1 ht
      exact m.length_text

/-- Settles O32: the sum modulo 2^32; it is at least -128, so below zero 2^32 is added once. -/
theorem relativeTargetArithmetic : Obligations.RelativeTargetArithmetic := by
  refine fun s => ⟨toNat_display_rel s, fun hneg => ?_, fun md hmd => ?_⟩
  · have hlow : -128 ≤ (loByte s.opnd).toInt := BitVec.le_toInt _
    rw [toNat_display_rel]
    omega
  · rw [display_of_ne_rel s hmd, toNat_zext32]

/-- Settles O33: the state after the branch's two bytes, and the sum with a base in 16 bits (`base_add_display_rel`). -/
theorem targetPlusBaseIsTheBranchTarget : Obligations.TargetPlusBaseIsTheBranchTarget := by
  refine ⟨fun f hf b1 s base hb => ?_, fun s base => base_add_display_rel base s⟩
  obtain ⟨m, hr⟩ := classifyAddressingMode_eq_some_iff.1 (branchForms_mode f hf)
  have hexec : exec (f.2 b1) s = .next (present [f.1, b1] s) :=
    branchForms_encode f hf b1 ▸ exec_eq_present_encode (f.2 b1) s
  have hc : Mode.rel.count ≠ 0 := by decide
  have hstate := decodeByte_firstOperand hb hr hc b1
  refine ⟨present [f.1, b1] s, hexec, rfl, status_after_firstOperand_complete hb hr rfl b1, addressingMode_after_firstOperand hb hr hc b1, ?_,
    render_after_firstOperand hb hr hc b1, ?_⟩
  · exact congrArg State.cnt hstate
  · rw [base_add_display_rel, present_cons, present_cons, present_nil, hstate, loByte_zext16]

/-- Settles O34: both instructions display the byte `b1`, and both modes write the hex text bare. -/
theorem digitCountFollowsTheValue : Obligations.DigitCountFollowsTheValue := by
  intro oAbs oZp b1 s t habs hzp hs ht
  obtain ⟨mAbs, hrAbs⟩ := classifyAddressingMode_eq_some_iff.1 habs
  obtain ⟨mZp, hrZp⟩ := classifyAddressingMode_eq_some_iff.1 hzp
  refine ⟨?_, addressingMode_after_secondOperand hs hrAbs rfl b1 0, addressingMode_after_firstOperand ht hrZp (by decide) b1⟩
  calc (present [oAbs, b1, 0] s).render
      = some (hex (zext32 (joinBytes 0 b1))) := by
        rw [← display_after_secondOperand hs hrAbs rfl]
        exact render_after_secondOperand hs hrAbs rfl b1 0
    _ = some (hex (b1.setWidth 32)) := by rw [joinBytes_zero, zext32_zext16]
    _ = (present [oZp, b1] t).render := by
        rw [← display_after_firstOperand ht hrZp (by decide) (by decide) b1]
        exact (render_after_firstOperand ht hrZp (by decide) b1).symm

/-- Settles O27: the renderer by the operand's presence and the count of the ROM cell's mode. -/
theorem renderFailsExactlyOnItsConditions : Obligations.RenderFailsExactlyOnItsConditions := fun _ =>
  ⟨render_of_dv_false, fun _ _ hdv hr =>
    have hmd := addressingMode_of_rom hdv hr
    ⟨render_of_unexpectedOperand hmd, fun hov hc => render_of_operandAbsent hr hc hov, render_of_operand hmd,
      render_of_noOperand hmd⟩⟩

/-- Settles O30: mode by mode, `wrap` is written with the characters the spec gives. -/
theorem operandSyntaxOfEachMode : Obligations.OperandSyntaxOfEachMode := by
  refine fun h => ⟨?_, ?_, ?_, ?_, ?_, rfl, rfl, rfl⟩
  · simp [wrap, bare]
  · simp [wrap, inParensX]
  · simp [wrap, commaX]
  · simp [wrap, commaY]
  · simp [wrap, inParens]

end Sys2Proof.Claims
end

section
/-! The rule of every mnemonic: what the outputs show while operand bytes are awaited and when the instruction is complete,
and the rule from the mnemonic's row of the table of R64. -/

namespace Sys2Proof.Claims

open Sys2Proof.Machine

/-- The value that one operand byte displays, from the byte count after it: the target for REL, the byte itself for every
other mode (R131). -/
def byteDisplay (md : Mode) (count : Count) (b1 : Byte) : Count :=
  if md = .rel then count + b1.signExtend 32 else b1.setWidth 32

theorem display_eq_byteDisplay {t : State} {b1 : Byte} (h : t.opnd = zext16 b1) (md : Mode) :
    t.display md = byteDisplay md t.cnt b1 := by
  by_cases hmd : md = .rel
  · subst hmd
    rw [display_rel, h, loByte_zext16]
    rfl
  · rw [display_of_ne_rel t hmd, h, zext32_zext16, byteDisplay, if_neg hmd]

section
variable {o : Byte} {m : Mnemonic} {md : Mode} (hr : rom o = some (m, md))
include hr

theorem awaits_of_rom {t : State} (hdv : t.dv = true) (hopc : t.opc = o) :
    Awaits t ⟨o, m, md, m.text, md.count⟩ t.rem t.status := by
  subst hopc
  refine ⟨hdv, rfl, rfl, rfl, descriptor_of_rom hdv hr, ?_⟩
  rw [mnemonicText_of_dv_true hdv, classifyMnemonic_of_rom hr, Option.map_some]

theorem readsAsComplete_completed {operand : Option Operand} {len : Count} {s : State} {text : Text}
    (hrender : (completed o operand len s).render = some text) :
    ReadsAsComplete (completed o operand len s) ⟨o, m, md, m.text, md.count⟩ operand text := by
  have hdv : (completed o operand len s).dv = true := rfl
  have hoperand : (completed o operand len s).operand = operand := by cases operand <;> rfl
  obtain ⟨-, -, -, -, hdesc, htext⟩ := awaits_of_rom hr hdv rfl
  exact ⟨status_of_complete hdv rfl, hdesc, (mnemonic_of_dv_true hdv).trans (classifyMnemonic_of_rom hr),
    addressingMode_of_rom hdv hr, opcodeByte_of_dv_true hdv, htext, hoperand, hrender, decodeByte_of_boundary (.inr rfl)⟩

theorem render_completed_noOperand (hc : md.count = 0) (len : Count) (s : State) :
    (completed o none len s).render = some (wrap md []) :=
  render_of_noOperand (addressingMode_of_rom rfl hr) rfl hc

theorem render_completed_operand (hc : md.count ≠ 0) (v : Operand) (len : Count) (s : State) :
    (completed o (some v) len s).render = some (wrap md (hex ((completed o (some v) len s).display md))) :=
  render_of_operand (addressingMode_of_rom rfl hr) rfl hc

section
variable {s : State} (hb : s.AtBoundary)
include hb

theorem completed_after_opcode (hc : md.count = 0) : decodeByte o s = completed o none 1 s := by
  rw [decodeByte_opcode hb hr, hc]
  rfl

theorem completed_after_firstOperand (hc : md.count = 1) (b1 : Byte) :
    decodeByte b1 (decodeByte o s) = completed o (some (zext16 b1)) 2 s := by
  rw [decodeByte_firstOperand hb hr (by simp [hc]), hc]
  rfl

theorem completed_after_secondOperand (hc : md.count = 2) (b1 b2 : Byte) :
    decodeByte b2 (decodeByte b1 (decodeByte o s)) = completed o (some (joinBytes b2 b1)) 3 s :=
  decodeByte_secondOperand hb hr hc b1 b2

theorem awaits_after_opcode (hc : md.count ≠ 0) :
    Awaits (decodeByte o s) ⟨o, m, md, m.text, md.count⟩ md.count .awaitingFirstOperandByte := by
  have h := awaits_of_rom hr (t := decodeByte o s) (by rw [decodeByte_opcode hb hr]) (by rw [decodeByte_opcode hb hr])
  rwa [status_after_opcode_awaiting hb hr hc, show (decodeByte o s).rem = md.count by rw [decodeByte_opcode hb hr]] at h

theorem awaits_after_firstOperand (hc : md.count = 2) (b1 : Byte) :
    Awaits (decodeByte b1 (decodeByte o s)) ⟨o, m, md, m.text, md.count⟩ 1 .awaitingSecondOperandByte := by
  have hstate := decodeByte_firstOperand hb hr (by simp [hc]) b1
  have hrem : (decodeByte b1 (decodeByte o s)).rem = 1 := by rw [hstate, hc]; rfl
  have h := awaits_of_rom hr (t := decodeByte b1 (decodeByte o s)) (by rw [hstate]) (by rw [hstate])
  rwa [status_after_firstOperand_awaiting hb hr hc, hrem] at h

end

end

/-- A row with no operand byte as the model has it: the count of its mode, its encoding, its text. -/
def FitsMode0 : Byte × Mode × Instr × Text → Prop := fun (o, md, i, text) =>
  md.count = 0 ∧ encode i = [o] ∧ wrap md [] = text

/-- A row with one operand byte as the model has it. -/
def FitsMode1 : Byte × Mode × (Byte → Instr) × (Count → Byte → Text) → Prop := fun (o, md, mk, text) =>
  md.count = 1 ∧ (∀ b1, encode (mk b1) = [o, b1]) ∧ ∀ count b1, wrap md (hex (byteDisplay md count b1)) = text count b1

/-- A row with two operand bytes as the model has it. -/
def FitsMode2 : Byte × Mode × (Operand → Instr) × (Text → Text) → Prop := fun (o, md, mk, text) =>
  md.count = 2 ∧ (∀ v, encode (mk v) = [o, loByte v, hiByte v]) ∧ ∀ h, wrap md h = text h

section
variable {o : Byte} {m : Mnemonic} {md : Mode} (hr : rom o = some (m, md))
include hr

theorem form0_of_rom {i : Instr} {text : Text} (hf : FitsMode0 (o, md, i, text)) : Form0 m m.text (o, md, i, text) := by
  obtain ⟨hc, henc, htext⟩ := hf
  refine ⟨hr, hc, henc, fun s hb => ?_⟩
  have hstate := completed_after_opcode hr hb hc
  refine ⟨hstate, ?_, ?_⟩
  · rw [exec_eq_present_encode, henc, present_cons, present_nil, hstate]
  · rw [← hc, ← htext]
    exact readsAsComplete_completed hr (render_completed_noOperand hr hc 1 s)

theorem form1_of_rom {mk : Byte → Instr} {text : Count → Byte → Text} (hf : FitsMode1 (o, md, mk, text)) :
    Form1 m m.text (o, md, mk, text) := by
  obtain ⟨hc, henc, htext⟩ := hf
  have hne : md.count ≠ 0 := by simp [hc]
  refine ⟨hr, hc, henc, fun s b1 hb => ?_⟩
  have hstate := completed_after_firstOperand hr hb hc b1
  refine ⟨hc ▸ awaits_after_opcode hr hb hne, hstate, ?_, ?_⟩
  · rw [exec_eq_present_encode, henc, present_cons, present_cons, present_nil, hstate]
    rfl
  · have hrender := render_completed_operand hr hne (zext16 b1) 2 s
    rw [display_eq_byteDisplay rfl, htext] at hrender
    exact hc ▸ readsAsComplete_completed hr hrender

theorem form2_of_rom {mk : Operand → Instr} {text : Text → Text} (hf : FitsMode2 (o, md, mk, text)) :
    Form2 m m.text (o, md, mk, text) := by
  obtain ⟨hc, henc, htext⟩ := hf
  have hne : md.count ≠ 0 := by simp [hc]
  have hrel : md ≠ .rel := Mode.ne_rel_of_count_two hc
  refine ⟨hr, hc, fun b1 b2 v hv => ?_⟩
  obtain rfl : v = joinBytes b2 b1 := hv
  have hencode : encode (mk (joinBytes b2 b1)) = [o, b1, b2] := by rw [henc, loByte_joinBytes, hiByte_joinBytes]
  refine ⟨hencode, fun s hb => ?_⟩
  have hstate := completed_after_secondOperand hr hb hc b1 b2
  refine ⟨hc ▸ awaits_after_opcode hr hb hne, hc ▸ awaits_after_firstOperand hr hb hc b1, ?_, hstate, ?_, ?_⟩
  · rw [render_after_firstOperand hb hr hne, display_after_firstOperand hb hr hne hrel, htext]
  · rw [exec_eq_present_encode, hencode, present_cons, present_cons, present_cons, present_nil, hstate]
  · have hrender := render_completed_operand hr hne (joinBytes b2 b1) 3 s
    rw [display_of_ne_rel _ hrel, htext] at hrender
    exact hc ▸ readsAsComplete_completed hr hrender

end

/-- The opcode of a listed row and its mode. -/
def rowCell {α : Type} (f : Byte × Mode × α) : Byte × Mode := (f.1, f.2.1)

section
variable {m : Mnemonic} {id : BitVec 7} {txt : Text} {ops : List (Byte × Mode)}
  (hrow : mnemonicRows[id.toNat]? = some (m, id, txt, ops))
include hrow

theorem row_agrees : m.id = id ∧ m.text = txt ∧ ∀ f ∈ ops, rom f.1 = some (m, f.2) :=
  mnemonicRow_agrees _ (List.mem_of_getElem? hrow)

/-- A row at the place its id gives holds exactly the ROM cells of its mnemonic. -/
theorem rom_eq_some_iff_mem_row (f : Byte × Mode) : rom f.1 = some (m, f.2) ↔ f ∈ ops := by
  obtain ⟨hid, -, hcells⟩ := row_agrees hrow
  refine ⟨fun hr => ?_, hcells f⟩
  obtain ⟨r, hr', hmem⟩ := rom_cell_mem_mnemonicRow f.1 (m, f.2) hr
  have hrm : mnemonicRows[m.id.toNat]? = some r := hr'
  obtain rfl : (m, id, txt, ops) = r := Option.some.inj (by rw [← hrow, ← hrm, hid])
  exact hmem

/-- The rule of a mnemonic from its row: the listed rows are the row's opcodes with their modes in some order, and each
is written as the model has it. -/
theorem mnemonicRule_of_row {f0 : List (Byte × Mode × Instr × Text)}
    {f1 : List (Byte × Mode × (Byte → Instr) × (Count → Byte → Text))}
    {f2 : List (Byte × Mode × (Operand → Instr) × (Text → Text))}
    (hops : ops.Perm (f0.map rowCell ++ f1.map rowCell ++ f2.map rowCell))
    (h0 : ∀ f ∈ f0, FitsMode0 f) (h1 : ∀ f ∈ f1, FitsMode1 f) (h2 : ∀ f ∈ f2, FitsMode2 f) :
    MnemonicRule m id txt f0 f1 f2 := by
  obtain ⟨hid, rfl, -⟩ := row_agrees hrow
  have hrom (c : Byte × Mode) : rom c.1 = some (m, c.2) ↔ c ∈ f0.map rowCell ++ f1.map rowCell ++ f2.map rowCell :=
    (rom_eq_some_iff_mem_row hrow c).trans hops.mem_iff
  refine ⟨hid, rfl, fun f hf => ?_, fun f hf => ?_, fun f hf => ?_, fun b => ?_⟩
  · exact form0_of_rom ((hrom (rowCell f)).2 (by simp [List.mem_map_of_mem hf])) (h0 f hf)
  · exact form1_of_rom ((hrom (rowCell f)).2 (by simp [List.mem_map_of_mem hf])) (h1 f hf)
  · exact form2_of_rom ((hrom (rowCell f)).2 (by simp [List.mem_map_of_mem hf])) (h2 f hf)
  · calc classifyMnemonic b = some m
        ↔ ∃ md, rom b = some (m, md) := by simp [classifyMnemonic]
      _ ↔ ∃ md, (b, md) ∈ f0.map rowCell ++ f1.map rowCell ++ f2.map rowCell := exists_congr fun md => hrom (b, md)
      _ ↔ b ∈ (f0.map rowCell ++ f1.map rowCell ++ f2.map rowCell).map Prod.fst := by
        simp only [List.mem_map, Prod.exists, exists_eq_right, exists_and_right]
      _ ↔ b ∈ f0.map (·.1) ++ f1.map (·.1) ++ f2.map (·.1) := by
        simp only [List.map_append, List.map_map]
        rfl

end

end Sys2Proof.Claims
end

section
/-! The statements of the family 42_alu_group. -/

namespace Sys2Proof.Claims

/-- Settles O46: each mnemonic's rule from its row of the table of R64 (`mnemonicRule_of_row`). What is left of each
listed row, its mode's count, its encoding and its text, is true by definition. -/
theorem aluGroupForms : Obligations.AluGroupForms := by
  refine ⟨?_, ?_, ?_, ?_, ?_, ?_, ?_, ?_⟩ <;> refine mnemonicRule_of_row rfl (by decide) (List.forall_mem_nil _) ?_ ?_
  all_goals
    simp only [List.forall_mem_cons, List.not_mem_nil, false_implies, implies_true, and_true, FitsMode1, FitsMode2]
    and_intros <;> intros <;> rfl

end Sys2Proof.Claims
end

section
/-! The statements of the family 43_shift_incdec. -/

namespace Sys2Proof.Claims

/-- Settles O47: the six mnemonics have the same five addressing modes, so one argument gives each rule from its row of the
table of R64 (`mnemonicRule_of_row`): the accumulator form, then ZP and ZP,X, then ABS and ABS,X. Each form's operand count,
encoding and text are true by definition. -/
theorem shiftIncrementDecrementForms : Obligations.ShiftIncrementDecrementForms := by
  refine ⟨?_, ?_, ?_, ?_, ?_, ?_⟩ <;> refine mnemonicRule_of_row rfl (by decide)
    (List.forall_mem_singleton.2 ⟨rfl, rfl, rfl⟩)
    (List.forall_mem_cons.2 ⟨?_, List.forall_mem_singleton.2 ?_⟩)
    (List.forall_mem_cons.2 ⟨?_, List.forall_mem_singleton.2 ?_⟩)
  all_goals exact ⟨rfl, fun _ => rfl, by intros; rfl⟩

end Sys2Proof.Claims
end

section
/-! The statements of the family 44_index_bit. -/

namespace Sys2Proof.Claims

/-- Settles O48: the ten mnemonics have only forms with one and with two operand bytes, and each gets its rule from its row
of the table of R64 (`mnemonicRule_of_row`). The facts left for each form (`FitsMode1`, `FitsMode2`), its mode's operand
count, its encoding and its text, are true by definition. -/
theorem indexAndBitTestForms : Obligations.IndexAndBitTestForms := by
  refine ⟨?_, ?_, ?_, ?_, ?_, ?_, ?_, ?_, ?_, ?_⟩ <;> refine mnemonicRule_of_row rfl (by decide) (List.forall_mem_nil _)
    (List.forall_iff_forall_mem.1 ?_)
    (List.forall_iff_forall_mem.1 ?_)
  all_goals and_intros <;> intros <;> rfl

end Sys2Proof.Claims
end

section
/-! The statements of the family 45_control. -/

namespace Sys2Proof.Claims

/-- The rule of a mnemonic whose only opcode is in mode REL: one operand byte, and the text of the count after that byte
plus the signed offset (R131, R137). -/
theorem mnemonicRule_of_relRow {m : Mnemonic} {id : BitVec 7} {txt : Text} {o : Byte} {mk : Byte → Instr}
    (hrow : mnemonicRows[id.toNat]? = some (m, id, txt, [(o, .rel)])) (henc : ∀ b1, encode (mk b1) = [o, b1]) :
    MnemonicRule m id txt [] [(o, .rel, mk, target)] [] :=
  have hfits : FitsMode1 (o, .rel, mk, target) := ⟨rfl, henc, fun _ _ => rfl⟩
  mnemonicRule_of_row hrow (.refl _) (List.forall_mem_nil _) (List.forall_mem_singleton.2 hfits) (List.forall_mem_nil _)

/-- The rule of a mnemonic whose only opcode takes no operand byte and has an empty operand text. -/
theorem mnemonicRule_of_noOperandRow {m : Mnemonic} {id : BitVec 7} {txt : Text} {o : Byte} {md : Mode} {i : Instr}
    (hrow : mnemonicRows[id.toNat]? = some (m, id, txt, [(o, md)])) (hc : md.count = 0) (henc : encode i = [o])
    (htext : wrap md [] = []) : MnemonicRule m id txt [(o, md, i, [])] [] [] :=
  mnemonicRule_of_row hrow (.refl _) (List.forall_mem_singleton.2 ⟨hc, henc, htext⟩) (List.forall_mem_nil _)
    (List.forall_mem_nil _)

/-- Settles O49: each branch mnemonic has one opcode, in mode REL (`mnemonicRule_of_relRow`). The name `branchForms` is
the model's list of the nine. -/
theorem branchInstructionForms : Obligations.BranchForms := by
  refine ⟨?_, ?_, ?_, ?_, ?_, ?_, ?_, ?_, ?_⟩
  all_goals exact mnemonicRule_of_relRow rfl fun _ => rfl

/-- Settles O50: JMP and JSR have only forms with two operand bytes; BRK, RTI and RTS have one opcode each, in mode STK
with no operand byte, so that BRK too is complete after its opcode (`mnemonicRule_of_noOperandRow`, R235). -/
theorem jumpAndReturnForms : Obligations.JumpAndReturnForms := by
  refine ⟨?jmp, ?jsr, ?brk, ?rti, ?rts⟩
  case jmp =>
    have habs : FitsMode2 (0x4C, .abs, .jmpAbs, bare) := ⟨rfl, fun _ => rfl, fun _ => rfl⟩
    have habsInd : FitsMode2 (0x6C, .absInd, .jmpAbsInd, inParens) := ⟨rfl, fun _ => rfl, fun _ => rfl⟩
    have habsXInd : FitsMode2 (0x7C, .absXInd, .jmpAbsXInd, inParensX) := ⟨rfl, fun _ => rfl, fun _ => rfl⟩
    exact mnemonicRule_of_row rfl (.refl _) (List.forall_mem_nil _) (List.forall_mem_nil _)
      (List.forall_mem_cons.2 ⟨habs, List.forall_mem_cons.2 ⟨habsInd, List.forall_mem_singleton.2 habsXInd⟩⟩)
  case jsr =>
    have habs : FitsMode2 (0x20, .abs, .jsr, bare) := ⟨rfl, fun _ => rfl, fun _ => rfl⟩
    exact mnemonicRule_of_row rfl (.refl _) (List.forall_mem_nil _) (List.forall_mem_nil _)
      (List.forall_mem_singleton.2 habs)
  all_goals exact mnemonicRule_of_noOperandRow rfl rfl rfl rfl

end Sys2Proof.Claims
end

section
/-! The statements of the family 46_implied_stack. -/

namespace Sys2Proof.Claims

/-- The rule of a mnemonic whose only opcode is in mode IMP: no operand byte and no operand text, so what is left to know
is the row of the table of R64 and the encoding. -/
theorem mnemonicRule_of_impRow {m : Mnemonic} {id : BitVec 7} {txt : Text} {o : Byte} {i : Instr}
    (hrow : mnemonicRows[id.toNat]? = some (m, id, txt, [(o, .imp)])) (henc : encode i = [o]) :
    MnemonicRule m id txt [(o, .imp, i, [])] [] [] :=
  have hcount : Mode.imp.count = 0 := rfl
  have htext : wrap .imp [] = [] := rfl
  mnemonicRule_of_noOperandRow hrow hcount henc htext

/-- Settles O51: each of the seven flag mnemonics has one opcode, in mode IMP (`mnemonicRule_of_impRow`). -/
theorem flagInstructionForms : Obligations.FlagInstructionForms := by
  refine ⟨?_, ?_, ?_, ?_, ?_, ?_, ?_⟩
  all_goals exact mnemonicRule_of_impRow rfl rfl

/-- Settles O52: each of the ten index and transfer mnemonics has one opcode, in mode IMP (`mnemonicRule_of_impRow`). -/
theorem indexAndTransferForms : Obligations.IndexAndTransferForms := by
  refine ⟨?_, ?_, ?_, ?_, ?_, ?_, ?_, ?_, ?_, ?_⟩
  all_goals exact mnemonicRule_of_impRow rfl rfl

/-- Settles O53: NOP, WAI and STP have one opcode each, in mode IMP (`mnemonicRule_of_impRow`), so that WAI and STP too
leave the decoder ready for the next opcode byte (R256, R257). -/
theorem nopWaitStopForms : Obligations.NopWaitStopForms :=
  ⟨mnemonicRule_of_impRow rfl rfl, mnemonicRule_of_impRow rfl rfl, mnemonicRule_of_impRow rfl rfl⟩

/-- Settles O54: each of the eight push and pull mnemonics has one opcode, in mode STK, which like IMP takes no operand byte
and has no operand text (`mnemonicRule_of_noOperandRow`). -/
theorem pushAndPullForms : Obligations.PushAndPullForms := by
  have hcount : Mode.stk.count = 0 := rfl
  have htext : wrap .stk [] = [] := rfl
  refine ⟨?_, ?_, ?_, ?_, ?_, ?_, ?_, ?_⟩
  all_goals exact mnemonicRule_of_noOperandRow rfl hcount rfl htext

end Sys2Proof.Claims
end

section
/-! The statements of the family 47_bit_manipulation. -/

namespace Sys2Proof.Claims

open Sys2Proof.Machine

/-- The rule of a mnemonic whose only opcode is in mode ZP: one operand byte, and the text of that byte alone (R131, R133). -/
theorem mnemonicRule_of_zpRow {m : Mnemonic} {id : BitVec 7} {txt : Text} {o : Byte} {mk : Byte → Instr}
    (hrow : mnemonicRows[id.toNat]? = some (m, id, txt, [(o, .zp)])) (henc : ∀ b1, encode (mk b1) = [o, b1]) :
    MnemonicRule m id txt [] [(o, .zp, mk, ofByte bare)] [] :=
  have hfits : FitsMode1 (o, .zp, mk, ofByte bare) := ⟨rfl, henc, fun _ _ => rfl⟩
  mnemonicRule_of_row hrow (.refl _) (List.forall_mem_nil _) (List.forall_mem_singleton.2 hfits) (List.forall_mem_nil _)

/-- Settles O55: each of the eight mnemonics has one opcode, in mode ZP (`mnemonicRule_of_zpRow`). -/
theorem resetMemoryBitForms : Obligations.ResetMemoryBitForms := by
  refine ⟨?_, ?_, ?_, ?_, ?_, ?_, ?_, ?_⟩
  all_goals exact mnemonicRule_of_zpRow rfl fun _ => rfl

/-- Settles O56: each of the eight mnemonics has one opcode, in mode ZP (`mnemonicRule_of_zpRow`). -/
theorem setMemoryBitForms : Obligations.SetMemoryBitForms := by
  refine ⟨?_, ?_, ?_, ?_, ?_, ?_, ?_, ?_⟩
  all_goals exact mnemonicRule_of_zpRow rfl fun _ => rfl

section
variable {s : State} (hb : s.AtBoundary)
include hb

/-- An instruction of one operand byte is complete after that byte, so that the byte after it starts the next. -/
theorem atBoundary_after_firstOperand {o : Byte} {m : Mnemonic} {md : Mode} (hr : rom o = some (m, md)) (hc : md.count = 1)
    (b1 : Byte) : (decodeByte b1 (decodeByte o s)).AtBoundary := by
  rw [completed_after_firstOperand hr hb hc]
  exact .inr rfl

/-- Mode REL takes one operand byte (C4, D6), so that 0x34 as the third byte is an opcode: BIT in mode ZP_X. -/
theorem bitAwaits_after_rel {o : Byte} (hrel : classifyAddressingMode o = some .rel) (b1 : Byte) :
    (present [o, b1, 0x34] s).status = .awaitingFirstOperandByte ∧
    (present [o, b1, 0x34] s).mnemonic = some .bit ∧ (present [o, b1, 0x34] s).addressingMode = some .zpX := by
  obtain ⟨m, hr⟩ := classifyAddressingMode_eq_some_iff.1 hrel
  have hbit : rom 0x34 = some (.bit, .zpX) := rfl
  have hb' := atBoundary_after_firstOperand hb hr rfl b1
  obtain ⟨hdv, hopc, -, hstatus, -, -⟩ := awaits_after_opcode hbit hb' (by decide)
  simp only [present_cons, present_nil]
  refine ⟨hstatus, ?_, ?_⟩
  · exact (mnemonic_of_dv_true hdv).trans <| (congrArg classifyMnemonic hopc).trans (classifyMnemonic_of_rom hbit)
  · exact addressingMode_of_rom hdv ((congrArg rom hopc).trans hbit)

end

/-- Settles O57: each of the eight mnemonics has one opcode, in mode REL (`mnemonicRule_of_relRow`); the byte after the
operand byte is an opcode (`bitAwaits_after_rel`). -/
theorem branchOnBitResetForms : Obligations.BranchOnBitResetForms := by
  refine ⟨?_, ?_, ?_, ?_, ?_, ?_, ?_, ?_, ?thirdByte⟩
  case thirdByte =>
    have hrel : ∀ o ∈ ([0x0F, 0x1F, 0x2F, 0x3F, 0x4F, 0x5F, 0x6F, 0x7F] : List Byte),
      classifyAddressingMode o = some .rel := by decide
    exact fun o ho _ b1 hb => bitAwaits_after_rel hb (hrel o ho) b1
  all_goals exact mnemonicRule_of_relRow rfl fun _ => rfl

/-- Settles O58: as for BBR0 to BBR7, each mnemonic has one opcode, in mode REL (`mnemonicRule_of_relRow`), and the byte
after the operand byte is an opcode (`bitAwaits_after_rel`). -/
theorem branchOnBitSetForms : Obligations.BranchOnBitSetForms := by
  refine ⟨?_, ?_, ?_, ?_, ?_, ?_, ?_, ?_, ?thirdByte⟩
  case thirdByte =>
    have hrel : ∀ o ∈ ([0x8F, 0x9F, 0xAF, 0xBF, 0xCF, 0xDF, 0xEF, 0xFF] : List Byte),
      classifyAddressingMode o = some .rel := by decide
    exact fun o ho _ b1 hb => bitAwaits_after_rel hb (hrel o ho) b1
  all_goals exact mnemonicRule_of_relRow rfl fun _ => rfl

end Sys2Proof.Claims
end

section
/-! The kind of a transaction (R305), two boundaries seen from the next byte (R334), and a whole instruction presented
from a boundary (R333). -/

namespace Sys2Proof.Machine

theorem transactionKind_eq_operandByte_iff {b : Byte} {s : State} :
    transactionKind b s = .operandByte ↔ ¬ s.AtBoundary := by
  by_cases hb : s.AtBoundary
  · cases hr : resolve b <;> simp [transactionKind, hb, hr]
  · simp [transactionKind, hb]

theorem decodeOutcome_eq_unrecognizedOpcode_iff {b : Byte} {s : State} :
    decodeOutcome b s = some .unrecognizedOpcode ↔ s.AtBoundary ∧ rom b = none := by
  rw [← resolve_eq_none_iff]
  by_cases hb : s.AtBoundary
  · cases hr : resolve b <;> simp [decodeOutcome, transactionKind, hb, hr]
  · simp [decodeOutcome, transactionKind, hb]

/-- Only a discarded byte leaves no descriptor: a fold keeps the one it belongs to. -/
theorem decodeByte_dv_eq_false_iff {b : Byte} {s : State} :
    (decodeByte b s).dv = false ↔ s.AtBoundary ∧ rom b = none := by
  rw [← resolve_eq_none_iff]
  obtain ⟨hb, hr, h⟩ | ⟨d, -, hr, h⟩ | ⟨hn, h⟩ := decodeByte_cases b s
  · simp [h, hb, hr]
  · simp [h, hr]
  · have hdv : s.dv ≠ false := fun hdv => hn (.inl hdv)
    simp [h, hn, hdv]

/-- No output shows the pending feeds, before or after further bytes. -/
theorem ports_present_withInput (bs : List Byte) (s : State) (feeds : List (List Byte)) :
    (present bs { s with input := feeds }).ports = (present bs s).ports := by
  rw [present_withInput]
  rfl

theorem getLast?_statusTrace (b : Byte) (bs : List Byte) (s : State) :
    (Claims.statusTrace (b :: bs) s).getLast? = some (present (b :: bs) s).status := by
  induction bs generalizing b s with
  | nil => rfl
  | cons b' bs ih => rw [Claims.statusTrace, List.getLast?_cons, ih, Option.getD_some, present_cons b]

theorem getLast?_expectedTrace :
    ∀ c : Fin 3, (Claims.expectedTrace (c.val + 1)).getLast? = some .instructionComplete := by decide

/-- Every instruction presented from a boundary completes: its status sequence (R107) ends so. -/
theorem status_present_encode (i : Instr) {s : State} (hb : s.AtBoundary) :
    (present (encode i) s).status = .instructionComplete := by
  have htrace := Claims.statusSequenceOfEveryInstruction i s hb
  obtain ⟨o, m, md, ops, henc, -, hlen⟩ := exists_rom_of_encode i
  rw [henc] at htrace ⊢
  have hlast := getLast?_statusTrace o ops s
  rw [htrace, List.length_cons, hlen, getLast?_expectedTrace] at hlast
  exact (Option.some.inj hlast).symm

/-- Whole instructions lead from boundary to boundary. -/
theorem atBoundary_present_stream (is : List Instr) {s : State} (hb : s.AtBoundary) :
    (present (is.flatMap encode) s).AtBoundary := by
  induction is generalizing s with
  | nil => exact hb
  | cons i is ih =>
    rw [List.flatMap_cons, present_append]
    exact ih (.inr (status_eq_complete_iff.1 (status_present_encode i hb)).2)

/-- The instruction at the end of a stream is presented from where the others end. -/
theorem present_stream_concat (is : List Instr) (i : Instr) (s : State) :
    present ((is ++ [i]).flatMap encode) s = present (encode i) (present (is.flatMap encode) s) := by
  rw [List.flatMap_append, List.flatMap_singleton, present_append]

end Sys2Proof.Machine
end

section
/-! The statements of the families 60_exceptions and 70_reset_and_hazards. -/

namespace Sys2Proof.Claims

open Sys2Proof.Machine

/-- Settles O45: the instructions before the last end at a boundary (`atBoundary_present_stream`), from which the last
completes (`status_present_encode`). -/
theorem instructionStreamDecodesInOrder : Obligations.InstructionStreamDecodesInOrder := by
  refine fun is s hb => ⟨atBoundary_present_stream is hb, present_cnt _ s, fun hne => ?_, fun i => ⟨?_, ?_⟩⟩
  · obtain rfl | ⟨js, i, rfl⟩ := List.eq_nil_or_concat' is
    · exact absurd rfl hne
    · rw [present_stream_concat]
      exact status_present_encode i (atBoundary_present_stream js hb)
  · rw [exec_eq_present_encode, present_stream_concat]
  · rw [List.flatMap_cons]
    exact decodeOfEncodeIsTheInstruction i _

/-- Settles O35: a step presents the bytes of a feed or none (`step_eq_present`), an instruction those of its encoding. -/
theorem nothingStopsTheBlock : Obligations.NothingStopsTheBlock := by
  refine ⟨fun s => ?_, fun i s => ⟨_, exec_eq_present_encode i s⟩⟩
  obtain ⟨bs, feeds, h⟩ := step_eq_present s
  exact ⟨_, h⟩

/-- Settles O43: the byte that has the outcome is the one that leaves no descriptor (`decodeByte_dv_eq_false_iff`), which
is what NoInstruction tests. -/
theorem unrecognizedOpcodeShowsAsNoInstruction : Obligations.UnrecognizedOpcodeShowsAsNoInstruction := by
  refine fun b s _ => ⟨decodeOutcome_eq_unrecognizedOpcode_iff, ?_, transactionKind_eq_operandByte_iff⟩
  rw [decodeOutcome_eq_unrecognizedOpcode_iff, status_eq_noInstruction_iff, decodeByte_dv_eq_false_iff]

/-- Settles O41: the next byte leaves the two states equal but for the pending feeds and, when it is discarded, an
`OPC` without a descriptor, which no output shows (`ports_present_withOpc_of_dv_false`). -/
theorem nextInstructionOverwritesThePrevious : Obligations.NextInstructionOverwritesThePrevious := by
  intro s t b bs hs ht hcnt
  rw [present_cons, present_cons]
  cases hr : rom b with
  | none =>
    have hdv : (decodeByte b t).dv = false := decodeByte_dv_eq_false_iff.2 ⟨ht, hr⟩
    have h : decodeByte b s = { decodeByte b t with opc := s.opc, input := s.input } := by
      simp [decodeByte_of_noMatch hs hr, decodeByte_of_noMatch ht hr, State.discard, State.countByte, hcnt]
    have hinput := ports_present_withInput bs { decodeByte b t with opc := s.opc } s.input
    rw [h]
    exact hinput.trans (ports_present_withOpc_of_dv_false bs hdv s.opc)
  | some c =>
    have h : decodeByte b s = { decodeByte b t with input := s.input } := by
      rw [decodeByte_opcode hs hr, decodeByte_opcode ht hr, hcnt]
    rw [h, ports_present_withInput]

end Sys2Proof.Claims
end
